-- ==== Sys2Proof/Word.lean ====
section
/-! DEFINITION. The byte and the level of a line: the only two kinds of datum the block moves
(spec 20_memory.md R44: every datum is one byte; 00_scope.md R8: levels, 1 = high, 0 = low). -/

namespace Sys2Proof

/-- A byte, 8 bits, unsigned; bit 0 is its least significant bit (R8). -/
abbrev Byte := BitVec 8

/-- The level of an output line: `true` is high (1), `false` is low (0) (R8, R24, R25). -/
abbrev Level := Bool

end Sys2Proof
end

