-- ==== Sys2Proof/Config.lean ====
section
/-! DEFINITION. The parameters of the block (spec 00_scope.md R5): the fixed ones with their value, the OPEN
ones as opaque constants without a body, so that no proof can see a value of theirs. The two OPEN parameters
RESET_DISPLAY_ON and RESET_BRIGHTNESS are arguments of `Machine.State.resetWith` (Machine/State.lean). -/

namespace Sys2Proof.Config

/-- `WINDOW_TICKS`: ticks per byte window (R5). -/
def windowTicks : Nat := 19

/-- `TICKS_PER_CELL`: ticks per bit-cell (R5). -/
def ticksPerCell : Nat := 2

/-- `DATA_BITS`: data bits per byte, least significant first (R5). -/
def dataBits : Nat := 8

/-- `NUM_CMD_SLOTS` (R5). -/
abbrev numCmdSlots : Nat := 3

/-- `NUM_DIGITS` (R5; fixed by D14). -/
abbrev numDigits : Nat := 6

/-- `DATA_CMD_FIXED` = 0b01000100 (R5, R62). -/
def dataCmdFixed : Byte := 0x44#8

/-- `DATA_CMD_AUTO` = 0b01000000 (R5, R62). PRESUMED: general knowledge, spec D12 and G1; log entry 3. -/
def dataCmdAuto : Byte := 0x40#8

/-- `ADDR_CMD_BASE` = 0b11000000 (R5, R63). -/
def addrCmdBase : Byte := 0xC0#8

/-- `CTRL_CMD_BASE` = 0b10000000 (R5, R64). PRESUMED: general knowledge, spec D13 and G2; log entry 3. -/
def ctrlCmdBase : Byte := 0x80#8

/-- `DP_BIT`, the decimal-point bit (R5, R145). PRESUMED: general knowledge, spec D24 and G3; log entry 3. -/
def dpBit : Byte := 0x80#8

/-- `SEG_TABLE`: digit to segment byte, the source's literal (R5, R141). -/
def segTable : Vector Byte 10 :=
  #v[0x3F#8, 0x06#8, 0x5B#8, 0x4F#8, 0x66#8, 0x6D#8, 0x7D#8, 0x07#8, 0x7F#8, 0x67#8]

/-- `T_TICK`, the period of the tick source, a positive duration in whatever unit the platform counts (R5, R171:
OPEN). No rule of the machine reads it. Free value: log entry 6. -/
opaque tickPeriod : ℕ+

/-- `LSD_POSITION`: the physical digit position that shows digit index k, k = 0 the least significant
(R5, R143: OPEN). A permutation, because six digits are shown on six positions. Free value: log entry 6. -/
opaque lsdPosition : Equiv.Perm (Fin 6)

/-- `LEADING_ZERO_POLICY`: true when a leading zero is sent as 0x00 (blank), false when as `SEG_TABLE[0]`
(R5, R143: OPEN). Free value: log entry 6. -/
opaque leadingZeroBlank : Bool

/-- `scale(value, decimals)` into 0..999999, `decimals` given as `decimals - 1` (R5, R144: uninterpreted).
Free value: log entry 6. -/
opaque scale : ℚ → Fin 3 → Fin 1000000

/-- The serial clock period, two ticks (R171, R210). -/
def serialClockPeriod : Nat := ticksPerCell * tickPeriod

/-- The duration of one byte window, nineteen ticks (R171, R210). -/
def windowPeriod : Nat := windowTicks * tickPeriod

end Sys2Proof.Config
end

