-- ==== Sys2Proof/Syntax.lean ====
section
/-! DEFINITION. The syntax: the enumerations of the block and `Instr`, one constructor per row of
spec/opcode_table.json (30 rows in the five formats of spec 30_encoding.md R60). -/

namespace Sys2Proof

/-- The protocol state `state` (spec 10_state.md R18). -/
inductive EngineState where
  /-- Idle, accepts a new high-level request. -/
  | ready
  /-- Shifting out the data command, `command_bytes[0]`. -/
  | sendingDataCmd
  /-- Shifting out the address command, `command_bytes[1]`. -/
  | sendingAddressCmd
  /-- Shifting out the display-control command, `command_bytes[2]`. -/
  | sendingDisplayCtrlCmd
  /-- Shifting out payload bytes, `payload_bytes[payload_cursor]`. -/
  | sendingPayloadBytes
  deriving DecidableEq, Repr

/-- The transfer method `transfer_method` (R19). -/
inductive Method where
  | displayControl
  | sixByteAutoAddress
  | singleByteFixedAddress
  deriving DecidableEq, Repr

/-- The float operand of `set_float`. The source gives no float format (R146): a finite float is held as the
rational number it denotes, and the values the spec names beside it are constructors of their own (U21).
DESIGN CHOICE, log entry 7. -/
inductive FloatArg where
  | finite (value : ℚ)
  | infinite (negative : Bool)
  | nan
  deriving DecidableEq, Repr

/-- One constructor per row of the opcode table. -/
inductive Instr where
  -- WIRE8: a byte on the wire, executed over the 19 TICK steps of its window (R61)
  /-- `CMD_DATA_FIXED` 01000100 (R62). -/
  | cmdDataFixed
  /-- `CMD_DATA_AUTO` 01000000 (R62). -/
  | cmdDataAuto
  /-- `CMD_ADDR` 11000aaa (R63). -/
  | cmdAddr (a : BitVec 3)
  /-- `CMD_DISP_CTRL` 1000pbbb (R64). -/
  | cmdDispCtrl (p : Bool) (b : BitVec 3)
  /-- `PAYLOAD` vvvvvvvv (R65). -/
  | payload (v : Byte)
  -- TICK5: a micro-operation of one TICK step (R66)
  /-- `T_START` (R102). -/
  | tStart
  /-- `T_BIT`, b the bit index (R103). -/
  | tBit (b : BitVec 3)
  /-- `T_CLKHI` of tick 2t + 1 (R104). -/
  | tClkhi (t : BitVec 4)
  /-- `T_ACK` (R105). -/
  | tAck
  /-- `T_TAIL` (R106). -/
  | tTail
  /-- `T_WRAP` after tick t (R107). -/
  | tWrap (t : BitVec 5)
  -- BOUND6: a row of the window boundary (R67)
  /-- `W_STOP` (R121). -/
  | wStop (st : EngineState) (m : Method)
  /-- `W_DATA_TO_ADDR` (R122). -/
  | wDataToAddr (m : Method)
  /-- `W_ADDR_TO_PAYLOAD` (R123). -/
  | wAddrToPayload (m : Method)
  /-- `W_SINGLE_DONE` (R124). -/
  | wSingleDone
  /-- `W_SIX_NEXT` (R125). -/
  | wSixNext
  /-- `W_SIX_LAST` (R126). -/
  | wSixLast
  /-- `W_SIX_DONE` (R127). -/
  | wSixDone
  /-- `W_CTRL_DONE` (R128). -/
  | wCtrlDone
  /-- `SEQ_FAULT`, a selector with no row (R130). -/
  | seqFault (st : EngineState) (m : Method) (stop : Bool)
  -- REQ: an arming operation of HOST (R68)
  /-- `ARM_CTRL(on, level)` (R83). -/
  | armCtrl (on : Bool) (level : BitVec 3)
  /-- `ARM_ALL(b[0..5])`, b by physical digit position (R82). -/
  | armAll (b : Vector Byte 6)
  /-- `ARM_DIGIT(position, v)`, position a natural (R81). -/
  | armDigit (position : Nat) (v : Byte)
  /-- `REQ_RESERVED`, op 11: no such request (R71). -/
  | reqReserved
  -- API: a call of the source (R72)
  /-- `set_digit(position, raw_segment_byte)` (R84); an integer, so that a negative one can be passed (R111). -/
  | setDigit (position : Int) (v : Byte)
  /-- `clear_all()` (R85). -/
  | clearAll
  /-- `set_power(on)` (R86). -/
  | setPower (on : Bool)
  /-- `set_brightness(level)` (R87). -/
  | setBrightness (level : BitVec 3)
  /-- `set_integer(value)` (R143). -/
  | setInteger (value : Int)
  /-- `set_float(value, decimals)` (R144). -/
  | setFloat (value : FloatArg) (decimals : Nat)
  deriving DecidableEq, Repr

/-- The rows of formats `REQ` and `API`: what HOST may issue (R31: HOST reaches the context through these only). -/
def Instr.isRequest : Instr → Bool
  | .armCtrl _ _ | .armAll _ | .armDigit _ _ | .reqReserved => true
  | .setDigit _ _ | .clearAll | .setPower _ | .setBrightness _ | .setInteger _ | .setFloat _ _ => true
  | .cmdDataFixed | .cmdDataAuto | .cmdAddr _ | .cmdDispCtrl _ _ | .payload _ => false
  | .tStart | .tBit _ | .tClkhi _ | .tAck | .tTail | .tWrap _ => false
  | .wStop _ _ | .wDataToAddr _ | .wAddrToPayload _ | .wSingleDone | .wSixNext | .wSixLast => false
  | .wSixDone | .wCtrlDone | .seqFault _ _ _ => false

/-- The rows of format `API`, each a pseudo-operation over an arming operation (R73). -/
def Instr.isCall : Instr → Bool
  | .setDigit _ _ | .clearAll | .setPower _ | .setBrightness _ | .setInteger _ | .setFloat _ _ => true
  | .armCtrl _ _ | .armAll _ | .armDigit _ _ | .reqReserved => false
  | .cmdDataFixed | .cmdDataAuto | .cmdAddr _ | .cmdDispCtrl _ _ | .payload _ => false
  | .tStart | .tBit _ | .tClkhi _ | .tAck | .tTail | .tWrap _ => false
  | .wStop _ _ | .wDataToAddr _ | .wAddrToPayload _ | .wSingleDone | .wSixNext | .wSixLast => false
  | .wSixDone | .wCtrlDone | .seqFault _ _ _ => false

end Sys2Proof
end

