-- ==== Sys2Proof/Machine/State.lean ====
section
/-! DEFINITION. The machine's state as plain data: the Transfer Context of spec 10_state.md R10 with the explicit
hidden state of R28, the observable outputs of 00_scope.md R7, and the two agents' surroundings (HOST's calls and
whether the tick source delivers). -/

namespace Sys2Proof.Machine

/-- The pair (`clock_line`, `data_line`), an entry of the level trace (R7). -/
structure LinePair where
  clk : Level
  dio : Level
  deriving DecidableEq, Repr

/-- The result of a request (R33): code 0 `OK`, code 1 `ERR_BAD_POSITION` (D23). -/
inductive Result where
  | ok
  | errBadPosition
  deriving DecidableEq, Repr

/-- The context a call is made from (60_exceptions.md R170): the foreground, which the tick preempts, or an interrupt
context of the tick's priority or a higher one, which it does not. -/
inductive CallContext where
  | foreground
  | tickOrHigher
  deriving DecidableEq, Repr

/-- A call HOST has still to make. -/
structure HostCall where
  call : Instr
  context : CallContext
  deriving DecidableEq, Repr

/-- Reasons the machine stops with a fault. -/
inductive Fault where
  /-- `SEQ_FAULT` (R130, R163): a window boundary whose (state, method, stop, cursor) the termination/advance table has
  no row for. Raised by the boundary (T_WRAP), by SEQ_FAULT itself, and by W_SIX_NEXT and W_SIX_LAST at cursor 5. Safe:
  the original does something unknown there. -/
  | seqFault (state : EngineState) (method : Method) (stop : Bool) (cursor : Fin 6)
  deriving DecidableEq, Repr

/-- Reasons the machine refuses. -/
inductive Refusal where
  /-- An instruction without a meaning yet; raised by exec's arms only. Safe. -/
  | notModelled (mnemonic : String)
  /-- Raised by REQ_RESERVED: op 11 is no request (R71). Safe. -/
  | reservedRequest
  /-- Raised by a data tick in `Ready`: no byte is selected and no TICK step exists there (R101, U13). Safe. -/
  | noCurrentByte
  /-- Raised by T_WRAP with t in 19..31: no such tick exists (R14, R71, U17). Safe. -/
  | noSuchTick (t : Nat)
  /-- Raised by step when HOST's next call is no row of formats REQ and API: HOST has no other access (R31). Safe. -/
  | notARequest
  /-- Raised by set_integer and set_float on operands the source does not cover (R143, R144, D24, U21). Safe. -/
  | formatNotCovered
  deriving DecidableEq, Repr

/-- The state. -/
structure State where
  /-- `command_bytes[0..2]` (R11). -/
  commandBytes : Vector Byte Config.numCmdSlots
  /-- `payload_bytes[0..5]`, indexed by logical address (R12). -/
  payloadBytes : Vector Byte Config.numDigits
  /-- `tick`, 0..18 (R14). -/
  tick : Fin 19
  /-- `payload_cursor`, 0..5 (R15). -/
  payloadCursor : Fin 6
  /-- `state` (R18). -/
  state : EngineState
  /-- `start_pending` (R16). -/
  startPending : Bool
  /-- `stop_pending` (R17). -/
  stopPending : Bool
  /-- `transfer_method` (R19). -/
  transferMethod : Method
  /-- `display_on` (R20). -/
  displayOn : Bool
  /-- `brightness`, 0..7 (R21). -/
  brightness : BitVec 3
  /-- `tick_enable` (R22). -/
  tickEnable : Bool
  /-- `clock_line`, the level last written (R24). -/
  clockLine : Level
  /-- `data_line`, the level last written (R25). -/
  dataLine : Level
  /-- The level trace, oldest first, one pair per pin write that changed a level (R7, R8). Observable output; nothing
  the block does reads it. -/
  levelTrace : List LinePair
  /-- The results the requests returned, oldest first (R7, R33). Observable output; nothing reads it. -/
  results : List Result
  /-- The calls HOST has still to make, in program order (R6, R48). -/
  hostCalls : List HostCall
  /-- The tick source has stopped delivering ticks (R176). An input: no step writes it. -/
  tickStarved : Bool
  deriving DecidableEq, Repr

/-- The `ready` output (R32). -/
def State.ready (s : State) : Bool := decide (s.state = .ready)

/-- The machine after the creation of its Transfer Context (R30, R190), for each value of what the spec leaves open:
`RESET_DISPLAY_ON`, `RESET_BRIGHTNESS` and the contents of the two buffers. -/
def State.resetWith (displayOn : Bool) (brightness : BitVec 3) (cmd : Vector Byte Config.numCmdSlots)
    (pay : Vector Byte Config.numDigits) : State where
  commandBytes := cmd
  payloadBytes := pay
  tick := 0
  payloadCursor := 0
  state := .ready
  startPending := false
  stopPending := false
  transferMethod := .displayControl
  displayOn := displayOn
  brightness := brightness
  tickEnable := false
  clockLine := true
  dataLine := true
  levelTrace := []
  results := []
  hostCalls := []
  tickStarved := false

/-- The machine right after reset. The spec leaves `display_on`, `brightness` and the buffers open (R30): zero here.
DESIGN CHOICE, log entry 1; unsafe. -/
def State.reset : State := State.resetWith false 0#3 #v[0#8, 0#8, 0#8] #v[0#8, 0#8, 0#8, 0#8, 0#8, 0#8]

end Sys2Proof.Machine
end

