-- ==== Sys2Proof/Machine/Flags.lean ====
section
/-! DEFINITION. The start and stop flags: what each arming operation and each boundary row makes of them (spec
10_state.md R16, R17; 40_requests.md R81 to R83; 42_window_boundary.md R122 to R126). Nothing else writes them (R132). -/

namespace Sys2Proof.Machine

/-- Write both flags. -/
def State.setFlags (s : State) (start stop : Bool) : State := { s with startPending := start, stopPending := stop }

/-- The flags every arming operation sets (R81, R82, R83; D10). -/
def armFlags (s : State) : State := s.setFlags true true

/-- The flags of the address window: start on, stop off (R122). -/
def addressFlags (s : State) : State := s.setFlags true false

/-- The flags of the first payload window: start off, stop on iff the method is single-byte (R123). -/
def payloadFlags (s : State) : State := s.setFlags false (decide (s.transferMethod = .singleByteFixedAddress))

/-- The flags of the last payload window: stop on, start as it was (R126). -/
def lastByteFlags (s : State) : State := s.setFlags s.startPending true

end Sys2Proof.Machine
end

