-- ==== Sys2Proof/Machine/Operands.lean ====
section
/-! DEFINITION. How operands become bytes: the permutation, the assembly of the command bytes, the choice of a bit,
and the formatting layer's digits and segments (spec 20_memory.md R41, R43; 30_encoding.md R62 to R65, R70;
43_host_formatting.md R141 to R145). Nothing here reads the state. -/

namespace Sys2Proof.Machine

/-- `PERM(d) = (d + 3) mod 6`: physical digit position to payload slot, which is the logical address (R41). -/
def perm (d : Fin 6) : Fin 6 := ⟨(d.val + 3) % 6, Nat.mod_lt _ (by decide)⟩

/-- `PERM⁻¹(a) = (a + 3) mod 6` (R41). -/
def permInv (a : Fin 6) : Fin 6 := ⟨(a.val + 3) % 6, Nat.mod_lt _ (by decide)⟩

/-- The legality check of a digit position: the positions 0..5 and no other (R81, R111). -/
def legalPosition (position : Int) : Option (Fin 6) :=
  if h : 0 ≤ position ∧ position ≤ 5 then some ⟨position.toNat, by omega⟩ else none

/-- The address command `ADDR_CMD_BASE OR a` (R63, R70). -/
def addressByte (a : BitVec 3) : Byte := Config.addrCmdBase ||| a.setWidth 8

/-- The address command for logical address a in 0..5. -/
def addressByteOf (a : Fin 6) : Byte := addressByte (BitVec.ofNat 3 a.val)

/-- The display-control command `CTRL_CMD_BASE OR (on << 3) OR level` (R64, R70). -/
def ctrlByte (on : Bool) (level : BitVec 3) : Byte :=
  Config.ctrlCmdBase ||| ((if on then 1#8 else 0#8) <<< 3) ||| level.setWidth 8

/-- The byte a wire row stands for (R62 to R65). -/
def wireByte : Instr → Option Byte
  | .cmdDataFixed => some Config.dataCmdFixed
  | .cmdDataAuto => some Config.dataCmdAuto
  | .cmdAddr a => some (addressByte a)
  | .cmdDispCtrl p b => some (ctrlByte p b)
  | .payload v => some v
  | .tStart | .tBit _ | .tClkhi _ | .tAck | .tTail | .tWrap _ => none
  | .wStop _ _ | .wDataToAddr _ | .wAddrToPayload _ | .wSingleDone | .wSixNext | .wSixLast => none
  | .wSixDone | .wCtrlDone | .seqFault _ _ _ => none
  | .armCtrl _ _ | .armAll _ | .armDigit _ _ | .reqReserved => none
  | .setDigit _ _ | .clearAll | .setPower _ | .setBrightness _ | .setInteger _ | .setFloat _ _ => none

/-- `(B >> i) AND 1`, bit i of a byte (R8, R103). -/
def bitOf (B : Byte) (i : Nat) : Level := B.getLsbD i

/-- The six payload entries of `ARM_ALL`: `payload_bytes[PERM(d)] = b[d]`, read at slot a (R70, R82). -/
def placeByPosition (b : Vector Byte 6) : Vector Byte 6 := Vector.ofFn fun a : Fin 6 => b[permInv a]

/-- Six zero bytes, the operand of `clear_all()` (R85). -/
def zeroBytes : Vector Byte 6 := Vector.replicate 6 0#8

/-- Digit of index k by the source's repeated modulo and divide: `d <- n mod 10; n <- n / 10` (R142). -/
def digit (n : Nat) : Nat → Nat
  | 0 => n % 10
  | k + 1 => digit (n / 10) k

/-- The segment pattern of a decimal digit (R141; the index is always 0..9 by R146). -/
def segByte (d : Nat) : Byte := Config.segTable[d % 10]

/-- A leading zero of n: an index above the least significant whose digit and every higher digit are 0
(R143, `LEADING_ZERO_POLICY`; digit 0 is never one, 95_test_vectors.md section 2.5). -/
def isLeadingZero (n k : Nat) : Bool := decide (0 < k) && decide (n < 10 ^ k)

/-- `s[k]` of R143, subject to the leading-zero policy. -/
def digitSegment (n k : Nat) : Byte :=
  if isLeadingZero n k && Config.leadingZeroBlank then 0#8 else segByte (digit n k)

/-- `b[LSD_POSITION(k)] = s[k]` (R143). -/
def placeDigits (s : Fin 6 → Byte) : Vector Byte 6 := Vector.ofFn fun d : Fin 6 => s (Config.lsdPosition.symm d)

/-- `format_integer(value)` of R73, R143. -/
def formatInteger (n : Nat) : Vector Byte 6 := placeDigits fun k => digitSegment n k.val

/-- `s[k]` of R144: the decimal-point bit on the slot of index `decimals - 1` and on no other (R145). -/
def floatSegment (n : Nat) (point : Fin 3) (k : Nat) : Byte :=
  if k = point.val then digitSegment n k ||| Config.dpBit else digitSegment n k

/-- `format_float(value, decimals)` of R73, R144, with `point = decimals - 1`. -/
def formatFloat (value : ℚ) (point : Fin 3) : Vector Byte 6 :=
  placeDigits fun k => floatSegment (Config.scale value point).val point k.val

/-- The rational value and the point index of a covered `set_float` call, or none (R144, U21). -/
def coveredFloat (value : FloatArg) (decimals : Nat) : Option (ℚ × Fin 3) :=
  match value with
  | .finite q =>
    if 0 ≤ q ∧ q ≤ 999999 then
      match decimals with
      | 1 => some (q, 0)
      | 2 => some (q, 1)
      | 3 => some (q, 2)
      | _ => none
    else none
  | .infinite _ => none
  | .nan => none

/-- The natural of a covered `set_integer` call, or none (R143, U21). -/
def coveredInteger (value : Int) : Option Nat :=
  if 0 ≤ value ∧ value ≤ 999999 then some value.toNat else none

end Sys2Proof.Machine
end

