-- ==== Sys2Proof/Machine/Ops.lean ====
section
/-! DEFINITION. The named operations over the state: register and pin access, the timer, the arming operations, the
pin writes of the micro-operations, `CurrentByte`, `Terminate`, and the synchronous error of a request (spec
00_scope.md R8; 40_requests.md; 41_tick_sequencer.md; 42_window_boundary.md; 60_exceptions.md R161, R163). -/

namespace Sys2Proof.Machine

/-- The outcome of a meaning. -/
abbrev StepResult := Host.Outcome State Fault Refusal

/-- Run `f` on the next state of `o`; a fault or a refusal stays. -/
def andThen (o : StepResult) (f : State → StepResult) : StepResult :=
  match o with
  | .next s => f s
  | .fault r => .fault r
  | .refused r => .refused r

/-! ### Register access -/

/-- `cmd[i] <- v` (R8, R11). -/
def State.setCmd (s : State) (i : Fin 3) (v : Byte) : State := { s with commandBytes := s.commandBytes.set i v }

/-- `pay[a] <- v` (R8, R12). -/
def State.setPay (s : State) (a : Fin 6) (v : Byte) : State := { s with payloadBytes := s.payloadBytes.set a v }

/-- All six payload entries at once (R82). -/
def State.setPayAll (s : State) (p : Vector Byte 6) : State := { s with payloadBytes := p }

/-- `payload_cursor <- c` (R15). -/
def State.setCursor (s : State) (c : Fin 6) : State := { s with payloadCursor := c }

/-- `tick <- t` (R14). -/
def State.setTick (s : State) (t : Fin 19) : State := { s with tick := t }

/-- `transfer_method <- m` (R19). -/
def State.setMethod (s : State) (m : Method) : State := { s with transferMethod := m }

/-- `state <- st` (R18). -/
def State.setState (s : State) (st : EngineState) : State := { s with state := st }

/-- `display_on <- on` (R20). -/
def State.setDisplayOn (s : State) (on : Bool) : State := { s with displayOn := on }

/-- `brightness <- level` (R21). -/
def State.setBrightness (s : State) (level : BitVec 3) : State := { s with brightness := level }

/-- `TimerStart()`, that is `start_interrupt()` (R8, R172). -/
def State.timerStart (s : State) : State := { s with tickEnable := true }

/-- `TimerStop()`, that is `stop_interrupt()`, which returns with the timer confirmed stopped (R8, R172). -/
def State.timerStop (s : State) : State := { s with tickEnable := false }

/-- A request returns its result to the caller (R33). -/
def State.answer (s : State) (r : Result) : State := { s with results := s.results ++ [r] }

/-- The next call of HOST is taken up: it is no longer one HOST has still to make. -/
def State.takeCall (s : State) : State := { s with hostCalls := s.hostCalls.tail }

/-! ### Pins -/

/-- The two output pins (R8, R173). -/
inductive Pin where
  | clk
  | dio
  deriving DecidableEq, Repr

/-- The pair of levels now (R7). -/
def State.lines (s : State) : LinePair := ⟨s.clockLine, s.dataLine⟩

/-- The pair after a write of `level` to `pin`. -/
def LinePair.write (p : LinePair) (pin : Pin) (level : Level) : LinePair :=
  match pin with
  | .clk => { p with clk := level }
  | .dio => { p with dio := level }

/-- What a pin write appends to the level trace: the new pair if a level changed, else nothing (R7, R8). -/
def traceOf (before after : LinePair) : List LinePair := if before = after then [] else [after]

/-- `PinWrite(pin, level)` (R8, R173). -/
def State.pinWrite (s : State) (pin : Pin) (level : Level) : State :=
  { s with
    clockLine := (s.lines.write pin level).clk
    dataLine := (s.lines.write pin level).dio
    levelTrace := s.levelTrace ++ traceOf s.lines (s.lines.write pin level) }

/-! ### The byte being shifted -/

/-- `CurrentByte()`: the byte selected by `state`; none in `Ready` (R101). Read afresh at each use (R53). -/
def currentByte (s : State) : Option Byte :=
  match s.state with
  | .ready => none
  | .sendingDataCmd => some s.commandBytes[0]
  | .sendingAddressCmd => some s.commandBytes[1]
  | .sendingDisplayCtrlCmd => some s.commandBytes[2]
  | .sendingPayloadBytes => some s.payloadBytes[s.payloadCursor]

/-! ### The pin writes of the micro-operations -/

/-- The start condition: data low, then clock low (R102; the order is D6). -/
def startCondition (s : State) : State := (s.pinWrite .dio false).pinWrite .clk false

/-- The clock-low phase of data bit `i` of byte `B`: clock low, then data (R103; the order is D7). -/
def dataCell (B : Byte) (i : Nat) (s : State) : State := (s.pinWrite .clk false).pinWrite .dio (bitOf B i)

/-- The clock-high phase (R104). -/
def clockHigh (s : State) : State := s.pinWrite .clk true

/-- The acknowledge slot: clock low, then the data line released, that is driven high; nothing is sampled (R105). -/
def ackCell (s : State) : State := (s.pinWrite .clk false).pinWrite .dio true

/-- The last half bit-cell: clock low, then data low (R106; D8: tick 18 has no entry in the source). -/
def tailCell (s : State) : State := (s.pinWrite .clk false).pinWrite .dio false

/-- The stop condition: clock high, then data high (R121). -/
def stopCondition (s : State) : State := (s.pinWrite .clk true).pinWrite .dio true

/-! ### The boundary -/

/-- `fault SEQ_FAULT` with the combination it records (R163). -/
def raiseSeqFault (st : EngineState) (m : Method) (stop : Bool) (s : State) : StepResult :=
  .fault (.seqFault st m stop s.payloadCursor)

/-- `payload_cursor <- payload_cursor + 1`, never applied at 5 (R111 item 4, R125, R126): at 5 the advance would leave
the array, which is `SEQ_FAULT` (R130). -/
def advanceCursor (s : State) : StepResult :=
  if h : s.payloadCursor.val + 1 < 6 then .next (s.setCursor ⟨s.payloadCursor.val + 1, h⟩)
  else raiseSeqFault s.state s.transferMethod s.stopPending s

/-- `Terminate`: the timer stops, then `state <- Ready` (R129, R50). -/
def terminate (s : State) : State := s.timerStop.setState .ready

/-! ### Requests -/

/-- `hold until state = Ready` (R80): while the engine is busy HOST does nothing; the wait changes nothing (D19). -/
def holdUntilReady (s : State) (act : State → StepResult) : StepResult :=
  if s.state = .ready then act s else .next s

/-- `raise BadPosition`: the request returns `ERR_BAD_POSITION` and changes nothing (R161). This is the block's one
synchronous error and it has no handler: no register is saved and control returns to the caller (R160, R168). -/
def badPosition (s : State) : StepResult := .next (s.answer .errBadPosition)

/-- The last actions of every arming operation, in their order: `state`, then `TimerStart()`, then the result `OK`
(R49, R81 to R83). -/
def launch (st : EngineState) (s : State) : State := ((s.setState st).timerStart).answer .ok

/-- The arming of `ARM_DIGIT` for the payload slot a = `PERM(position)` (R81). -/
def armSingle (a : Fin 6) (v : Byte) (s : State) : State :=
  launch .sendingDataCmd
    (armFlags
      (((((s.setCmd 0 Config.dataCmdFixed).setCmd 1 (addressByteOf a)).setPay a v).setCursor a).setMethod
        .singleByteFixedAddress))

/-- The arming of `ARM_ALL` (R82). -/
def armSix (b : Vector Byte 6) (s : State) : State :=
  launch .sendingDataCmd
    (armFlags
      (((((s.setCmd 0 Config.dataCmdAuto).setCmd 1 (addressByteOf 0)).setPayAll (placeByPosition b)).setCursor 0).setMethod
        .sixByteAutoAddress))

/-- The arming of `ARM_CTRL` (R83). -/
def armControl (on : Bool) (level : BitVec 3) (s : State) : State :=
  launch .sendingDisplayCtrlCmd (armFlags ((s.setCmd 2 (ctrlByte on level)).setMethod .displayControl))

/-- A request for one digit: the wait, then the position check, then the arming (R81, R161; the order is D16). -/
def requestDigit (position : Int) (v : Byte) (s : State) : StepResult :=
  holdUntilReady s fun s =>
    match legalPosition position with
    | some d => .next (armSingle (perm d) v s)
    | none => badPosition s

/-- A request for all six digits: the wait, then the arming (R82). -/
def requestAll (b : Vector Byte 6) (s : State) : StepResult := holdUntilReady s fun s => .next (armSix b s)

/-- A display-control request: the wait, then the arming (R83). -/
def requestControl (on : Bool) (level : BitVec 3) (s : State) : StepResult :=
  holdUntilReady s fun s => .next (armControl on level s)

end Sys2Proof.Machine
end

