-- ==== Sys2Proof/Machine/Calls.lean ====
section
/-! DEFINITION. The calls of the source (format API; spec 40_requests.md R84 to R87, 43_host_formatting.md R143 to R145). -/

namespace Sys2Proof.Machine

/-- `set_digit(position, raw_segment_byte)` (R84). -/
def execSetDigit (position : Int) (v : Byte) (s : State) : StepResult := requestDigit position v s

/-- `clear_all()` (R85). -/
def execClearAll (s : State) : StepResult := requestAll zeroBytes s

/-- `set_power(on)` (R86): after the wait, `display_on <- on` and in the same step the arming of
`ARM_CTRL(display_on, brightness)` with the persisted `brightness` (D30). -/
def execSetPower (on : Bool) (s : State) : StepResult :=
  holdUntilReady s fun s => .next (armControl on s.brightness (s.setDisplayOn on))

/-- `set_brightness(level)` (R87): after the wait, `brightness <- level` and in the same step the arming of
`ARM_CTRL(display_on, brightness)` with the persisted `display_on` (D30). -/
def execSetBrightness (level : BitVec 3) (s : State) : StepResult :=
  holdUntilReady s fun s => .next (armControl s.displayOn level (s.setBrightness level))

/-- `set_integer(value)` (R143). Outside 0..999999 the spec has a model refuse (D24, U21). -/
def execSetInteger (value : Int) (s : State) : StepResult :=
  match coveredInteger value with
  | some n => requestAll (formatInteger n) s
  | none => .refused .formatNotCovered

/-- `set_float(value, decimals)` (R144, R145). Outside the covered values the spec has a model refuse (D24, U21). -/
def execSetFloat (value : FloatArg) (decimals : Nat) (s : State) : StepResult :=
  match coveredFloat value decimals with
  | some (q, point) => requestAll (formatFloat q point) s
  | none => .refused .formatNotCovered

end Sys2Proof.Machine
end

