-- ==== Sys2Proof/Machine/Request.lean ====
section
/-! DEFINITION. The arming operations of HOST (format REQ; spec 40_requests.md R80 to R83, 30_encoding.md R71). -/

namespace Sys2Proof.Machine

/-- `ARM_CTRL(on, level)` (R83). -/
def execArmCtrl (on : Bool) (level : BitVec 3) (s : State) : StepResult := requestControl on level s

/-- `ARM_ALL(b[0..5])` (R82). -/
def execArmAll (b : Vector Byte 6) (s : State) : StepResult := requestAll b s

/-- `ARM_DIGIT(position, v)` (R81). -/
def execArmDigit (position : Nat) (v : Byte) (s : State) : StepResult := requestDigit (Int.ofNat position) v s

/-- `REQ_RESERVED` (R71): no such operation; refused. -/
def execReqReserved (_s : State) : StepResult := .refused .reservedRequest

end Sys2Proof.Machine
end

