-- ==== Sys2Proof/Machine/Boundary.lean ====
section
/-! DEFINITION. The rows of the window boundary (format BOUND6; spec 42_window_boundary.md R120 to R130). -/

namespace Sys2Proof.Machine

/-- `W_STOP` (R121): the stop condition; no flag is cleared. -/
def execWStop (_st : EngineState) (_m : Method) (s : State) : StepResult := .next (stopCondition s)

/-- `W_DATA_TO_ADDR` (R122), for any method. -/
def execWDataToAddr (_m : Method) (s : State) : StepResult := .next (addressFlags (s.setState .sendingAddressCmd))

/-- `W_ADDR_TO_PAYLOAD` (R123), for any method. -/
def execWAddrToPayload (_m : Method) (s : State) : StepResult :=
  .next (payloadFlags (s.setState .sendingPayloadBytes))

/-- `W_SINGLE_DONE` (R124). -/
def execWSingleDone (s : State) : StepResult := .next (terminate s)

/-- `W_SIX_NEXT` (R125). -/
def execWSixNext (s : State) : StepResult := advanceCursor s

/-- `W_SIX_LAST` (R126): the cursor first, then stop on for the next window. -/
def execWSixLast (s : State) : StepResult := andThen (advanceCursor s) fun t => .next (lastByteFlags t)

/-- `W_SIX_DONE` (R127). -/
def execWSixDone (s : State) : StepResult := .next (terminate s)

/-- `W_CTRL_DONE` (R128). -/
def execWCtrlDone (s : State) : StepResult := .next (terminate s)

/-- `SEQ_FAULT` (R130, R163): no next state is chosen. -/
def execSeqFault (st : EngineState) (m : Method) (stop : Bool) (s : State) : StepResult := raiseSeqFault st m stop s

/-- The row of a boundary, on the state after the stop condition; `p` is the value the window ran with (R120). -/
def boundaryCase (p : Bool) (s : State) : StepResult :=
  match s.state, s.transferMethod, p with
  | .sendingDataCmd, m, true => execWDataToAddr m s
  | .sendingAddressCmd, m, false => execWAddrToPayload m s
  | .sendingPayloadBytes, .singleByteFixedAddress, true => execWSingleDone s
  | .sendingPayloadBytes, .sixByteAutoAddress, false =>
    if s.payloadCursor.val + 1 < 5 then execWSixNext s
    else if s.payloadCursor.val + 1 = 5 then execWSixLast s
    else execSeqFault s.state s.transferMethod p s
  | .sendingPayloadBytes, .sixByteAutoAddress, true => execWSixDone s
  | .sendingDisplayCtrlCmd, .displayControl, true => execWCtrlDone s
  | st, m, p => execSeqFault st m p s

/-- `WindowBoundary()` (R120): the stop condition if asked, then the row. -/
def windowBoundary (s : State) : StepResult :=
  if s.stopPending then andThen (execWStop s.state s.transferMethod s) (boundaryCase s.stopPending)
  else boundaryCase s.stopPending s

end Sys2Proof.Machine
end

