-- ==== Sys2Proof/Machine/Tick.lean ====
section
/-! DEFINITION. The micro-operations of a window (format TICK5) and the TICK step they make up (spec
41_tick_sequencer.md R100 to R107). -/

namespace Sys2Proof.Machine

/-- `T_START` (R102). -/
def execTStart (s : State) : StepResult := .next (startCondition s)

/-- `T_BIT(B, t)` with b = t / 2 and B = `CurrentByte()` (R103). `Ready` selects no byte (R101). -/
def execTBit (b : BitVec 3) (s : State) : StepResult :=
  match currentByte s with
  | some B => .next (dataCell B b.toNat s)
  | none => .refused .noCurrentByte

/-- `T_CLKHI` (R104). -/
def execTClkhi (_t : BitVec 4) (s : State) : StepResult := .next (clockHigh s)

/-- `T_ACK` (R105). -/
def execTAck (s : State) : StepResult := .next (ackCell s)

/-- `T_TAIL` (R106). -/
def execTTail (s : State) : StepResult := .next (tailCell s)

/-- The advance of the counter after tick t: `tick <- t + 1`, and at 19 `tick <- 0` and the boundary (R107). -/
def wrapAfter (t : Fin 19) (s : State) : StepResult :=
  if h : t.val + 1 < Config.windowTicks then .next (s.setTick ⟨t.val + 1, h⟩) else windowBoundary (s.setTick 0)

/-- `T_WRAP` (R107). Ticks 19..31 do not exist (R71). -/
def execTWrap (t : BitVec 5) (s : State) : StepResult :=
  if h : t.toNat < 19 then wrapAfter ⟨t.toNat, h⟩ s else .refused (.noSuchTick t.toNat)

/-- The start prefix of a TICK step (R100). -/
def startPrefix (s : State) : State := if s.tick.val = 0 ∧ s.startPending = true then startCondition s else s

/-- The half bit-cell of tick t for byte B (R100). -/
def halfCell (B : Byte) (t : Fin 19) (s : State) : State :=
  if t.val % 2 = 1 then clockHigh s
  else if t.val < 16 then dataCell B (t.val / 2) s
  else if t.val = 16 then ackCell s
  else tailCell s

/-- One TICK step that shifts byte B (R100): with `tick_enable = 0` TICK has no step and nothing happens (D18); in
`Ready` no TICK step exists (R101). -/
def tickStep (B : Byte) (s : State) : StepResult :=
  if s.tickEnable = false then .next s
  else if s.state = .ready then .refused .noCurrentByte
  else wrapAfter s.tick (halfCell B s.tick (startPrefix s))

end Sys2Proof.Machine
end

