-- ==== Sys2Proof/Machine/Wire.lean ====
section
/-! DEFINITION. The bytes on the wire (format WIRE8; spec 30_encoding.md R61 to R65). A byte is executed over the
nineteen TICK steps of its window, `tick` saying how far it has come (10_state.md R13): its meaning is its next TICK
step, which shifts that byte (41_tick_sequencer.md R100). DEDUCED, log entry 8. -/

namespace Sys2Proof.Machine

/-- `CMD_DATA_FIXED` (R62). -/
def execCmdDataFixed (s : State) : StepResult := tickStep Config.dataCmdFixed s

/-- `CMD_DATA_AUTO` (R62). -/
def execCmdDataAuto (s : State) : StepResult := tickStep Config.dataCmdAuto s

/-- `CMD_ADDR` (R63). -/
def execCmdAddr (a : BitVec 3) (s : State) : StepResult := tickStep (addressByte a) s

/-- `CMD_DISP_CTRL` (R64). -/
def execCmdDispCtrl (p : Bool) (b : BitVec 3) (s : State) : StepResult := tickStep (ctrlByte p b) s

/-- `PAYLOAD` (R65): passed through unchanged. -/
def execPayload (v : Byte) (s : State) : StepResult := tickStep v s

end Sys2Proof.Machine
end

