-- ==== Sys2Proof/Machine/Dispatch.lean ====
section
/-! DEFINITION. The dispatch: one arm per row of the opcode table, each one call of that row's meaning. -/

namespace Sys2Proof.Machine

def exec (i : Instr) (s : State) : Host.Outcome State Fault Refusal :=
  match i with
  | .cmdDataFixed => Sys2Proof.Machine.execCmdDataFixed s
  | .cmdDataAuto => Sys2Proof.Machine.execCmdDataAuto s
  | .cmdAddr a => Sys2Proof.Machine.execCmdAddr a s
  | .cmdDispCtrl p b => Sys2Proof.Machine.execCmdDispCtrl p b s
  | .payload v => Sys2Proof.Machine.execPayload v s
  | .tStart => Sys2Proof.Machine.execTStart s
  | .tBit b => Sys2Proof.Machine.execTBit b s
  | .tClkhi t => Sys2Proof.Machine.execTClkhi t s
  | .tAck => Sys2Proof.Machine.execTAck s
  | .tTail => Sys2Proof.Machine.execTTail s
  | .tWrap t => Sys2Proof.Machine.execTWrap t s
  | .wStop st m => Sys2Proof.Machine.execWStop st m s
  | .wDataToAddr m => Sys2Proof.Machine.execWDataToAddr m s
  | .wAddrToPayload m => Sys2Proof.Machine.execWAddrToPayload m s
  | .wSingleDone => Sys2Proof.Machine.execWSingleDone s
  | .wSixNext => Sys2Proof.Machine.execWSixNext s
  | .wSixLast => Sys2Proof.Machine.execWSixLast s
  | .wSixDone => Sys2Proof.Machine.execWSixDone s
  | .wCtrlDone => Sys2Proof.Machine.execWCtrlDone s
  | .seqFault st m stop => Sys2Proof.Machine.execSeqFault st m stop s
  | .armCtrl on level => Sys2Proof.Machine.execArmCtrl on level s
  | .armAll b => Sys2Proof.Machine.execArmAll b s
  | .armDigit position v => Sys2Proof.Machine.execArmDigit position v s
  | .reqReserved => Sys2Proof.Machine.execReqReserved s
  | .setDigit position v => Sys2Proof.Machine.execSetDigit position v s
  | .clearAll => Sys2Proof.Machine.execClearAll s
  | .setPower on => Sys2Proof.Machine.execSetPower on s
  | .setBrightness level => Sys2Proof.Machine.execSetBrightness level s
  | .setInteger value => Sys2Proof.Machine.execSetInteger value s
  | .setFloat value decimals => Sys2Proof.Machine.execSetFloat value decimals s

end Sys2Proof.Machine
end

