-- ==== Sys2Proof/WellFormed.lean ====
section
/-! DEFINITION. Which instructions are well-formed: those the spec gives an encoding with these operand values
(spec 30_encoding.md R63, R66, R67, R68, R71; for the formatting calls 43_host_formatting.md R143, R144 and D24). -/

namespace Sys2Proof

/-- The termination/advance table has a row for this selector for every `payload_cursor` (R67, R120). The six-byte
selector with stop not set has a row for the cursors 0..4 only, so it counts as having none here (R130). -/
def hasRowForEveryCursor : EngineState → Method → Bool → Bool
  | .sendingDataCmd, _, stop => stop
  | .sendingAddressCmd, _, stop => !stop
  | .sendingPayloadBytes, .singleByteFixedAddress, stop => stop
  | .sendingPayloadBytes, .sixByteAutoAddress, stop => stop
  | .sendingPayloadBytes, .displayControl, _ => false
  | .sendingDisplayCtrlCmd, .displayControl, stop => stop
  | .sendingDisplayCtrlCmd, _, _ => false
  | .ready, _, _ => false

/-- The values `set_float` is covered for: finite, 0..999999, `decimals` 1..3 (R144, U21, D24). -/
def floatCovered (value : FloatArg) (decimals : Nat) : Bool :=
  match value with
  | .finite q => decide (0 ≤ q) && decide (q ≤ 999999) && decide (1 ≤ decimals) && decide (decimals ≤ 3)
  | .infinite _ => false
  | .nan => false

/-- The well-formedness check. A position of 6 or 7 is well-formed: it has a descriptor and an effect (R71). -/
def Instr.wellFormed : Instr → Bool
  | .cmdAddr a => decide (a.toNat ≤ 5)
  | .tClkhi t => decide (t.toNat ≤ 8)
  | .tWrap t => decide (t.toNat ≤ 18)
  | .seqFault st m stop => !hasRowForEveryCursor st m stop
  | .armDigit position _ => decide (position ≤ 7)
  | .reqReserved => false
  | .setDigit position _ => decide (0 ≤ position) && decide (position ≤ 7)
  | .setInteger value => decide (0 ≤ value) && decide (value ≤ 999999)
  | .setFloat value decimals => floatCovered value decimals
  | .cmdDataFixed | .cmdDataAuto | .cmdDispCtrl _ _ | .payload _ => true
  | .tStart | .tBit _ | .tAck | .tTail => true
  | .wStop _ _ | .wDataToAddr _ | .wAddrToPayload _ | .wSingleDone | .wSixNext | .wSixLast => true
  | .wSixDone | .wCtrlDone => true
  | .armCtrl _ _ | .armAll _ | .clearAll | .setPower _ | .setBrightness _ => true

end Sys2Proof
end

