-- ==== Sys2Proof/Decode.lean ====
section
/-! DEFINITION. The decoder and the encoder of the five formats (spec 30_encoding.md R60 to R71), and the opcode
table's masks and matches as data.

The rows of different formats share words on purpose (R65: PAYLOAD overlaps the commands; T_BIT, T_START and T_WRAP
share tick 0; W_SIX_NEXT and W_SIX_LAST share a selector; ARM_DIGIT and set_digit share a descriptor). What tells them
apart is where the machine stands, so a `CodeWord` carries a `Format` that says so. -/

namespace Sys2Proof

/-- Where in a TICK step a `TICK5` word is read (R66: prefix of tick 0, the tick's own operation, suffix). -/
inductive TickPlace where
  | startPrefix
  | cell
  | wrapSuffix
  deriving DecidableEq, Repr

/-- Where in a window boundary a `BOUND6` word is read (R67: the stop prefix, then one row, chosen at a cursor). -/
inductive BoundPlace where
  | stopPrefix
  | row (cursor : Fin 6)
  deriving DecidableEq, Repr

/-- The format of a word and the place it is read at. `wire8 st` is the byte of a window in state `st` (R61: nothing in
a byte but its place in the frame tells which kind it is). `API` calls are written as the `REQ` descriptor they
expand to (R60). -/
inductive Format where
  | wire8 (st : EngineState)
  | tick5 (place : TickPlace)
  | bound6 (place : BoundPlace)
  | req
  deriving DecidableEq, Repr

/-- A word with its format and its width in bits. -/
structure CodeWord where
  format : Format
  width : Nat
  bits : Nat
  deriving DecidableEq, Repr

/-- The ordinal code of a state (R69; the spec's own, D2). -/
def EngineState.code : EngineState → Nat
  | .ready => 0
  | .sendingDataCmd => 1
  | .sendingAddressCmd => 2
  | .sendingDisplayCtrlCmd => 3
  | .sendingPayloadBytes => 4

/-- The state with a given code; codes 5..7 do not exist (R69, R71). -/
def EngineState.ofCode : Nat → Option EngineState
  | 0 => some .ready
  | 1 => some .sendingDataCmd
  | 2 => some .sendingAddressCmd
  | 3 => some .sendingDisplayCtrlCmd
  | 4 => some .sendingPayloadBytes
  | _ => none

/-- The ordinal code of a method (R69; the spec's own, D2). -/
def Method.code : Method → Nat
  | .displayControl => 0
  | .sixByteAutoAddress => 1
  | .singleByteFixedAddress => 2

/-- The method with a given code; code 3 does not exist (R69, R71). -/
def Method.ofCode : Nat → Option Method
  | 0 => some .displayControl
  | 1 => some .sixByteAutoAddress
  | 2 => some .singleByteFixedAddress
  | _ => none

/-- The `BOUND6` selector `state[2:0] ++ transfer_method[1:0] ++ stop_pending` (R67). -/
def boundSelector (st : EngineState) (m : Method) (stop : Bool) : Nat := st.code * 8 + m.code * 2 + stop.toNat

/-- The byte of a window in state `st` (R62 to R65). A byte of a command window that fits no command pattern is never
emitted (R71): refused. `Ready` shifts no byte (R101). -/
def decodeWire (st : EngineState) (n : Nat) : Option Instr :=
  match st with
  | .ready => none
  | .sendingDataCmd => if n = 0x44 then some .cmdDataFixed else if n = 0x40 then some .cmdDataAuto else none
  | .sendingAddressCmd => if n / 8 = 24 ∧ n % 8 ≤ 5 then some (.cmdAddr (BitVec.ofNat 3 (n % 8))) else none
  | .sendingDisplayCtrlCmd =>
    if n / 16 = 8 then some (.cmdDispCtrl (decide (n / 8 % 2 = 1)) (BitVec.ofNat 3 (n % 8))) else none
  | .sendingPayloadBytes => some (.payload (BitVec.ofNat 8 n))

/-- The micro-operation a tick value selects (R66); values 19..31 never occur: refused. -/
def decodeTick (place : TickPlace) (n : Nat) : Option Instr :=
  match place with
  | .startPrefix => if n = 0 then some .tStart else none
  | .cell =>
    if 18 < n then none
    else if n % 2 = 1 then some (.tClkhi (BitVec.ofNat 4 (n / 2)))
    else if n < 16 then some (.tBit (BitVec.ofNat 3 (n / 2)))
    else if n = 16 then some .tAck
    else some .tTail
  | .wrapSuffix => if 18 < n then none else some (.tWrap (BitVec.ofNat 5 n))

/-- The row of the termination/advance table (R67, R120), `SEQ_FAULT` where there is none (R130). -/
def boundaryRow (st : EngineState) (m : Method) (stop : Bool) (cursor : Fin 6) : Instr :=
  match st, m, stop with
  | .sendingDataCmd, m, true => .wDataToAddr m
  | .sendingAddressCmd, m, false => .wAddrToPayload m
  | .sendingPayloadBytes, .singleByteFixedAddress, true => .wSingleDone
  | .sendingPayloadBytes, .sixByteAutoAddress, false =>
    if cursor.val + 1 < 5 then .wSixNext else if cursor.val + 1 = 5 then .wSixLast else .seqFault st m stop
  | .sendingPayloadBytes, .sixByteAutoAddress, true => .wSixDone
  | .sendingDisplayCtrlCmd, .displayControl, true => .wCtrlDone
  | st, m, stop => .seqFault st m stop

/-- A boundary selector (R67); the codes 5..7 of a state and 3 of a method do not exist: refused (R71). -/
def decodeBound (place : BoundPlace) (n : Nat) : Option Instr :=
  match EngineState.ofCode (n / 8), Method.ofCode (n / 2 % 4) with
  | some st, some m =>
    match place with
    | .stopPrefix => if n % 2 = 1 then some (.wStop st m) else none
    | .row cursor => some (boundaryRow st m (decide (n % 2 = 1)) cursor)
  | _, _ => none

/-- A request descriptor, op in the two top bits, operands most significant first (R68). -/
def decodeReq (width n : Nat) : Option Instr :=
  if width = 6 ∧ n / 16 = 0 then some (.armCtrl (decide (n / 8 % 2 = 1)) (BitVec.ofNat 3 (n % 8)))
  else if width = 50 ∧ n / 2 ^ 48 = 1 then
    some (.armAll #v[BitVec.ofNat 8 (n / 2 ^ 40), BitVec.ofNat 8 (n / 2 ^ 32), BitVec.ofNat 8 (n / 2 ^ 24),
      BitVec.ofNat 8 (n / 2 ^ 16), BitVec.ofNat 8 (n / 2 ^ 8), BitVec.ofNat 8 n])
  else if width = 13 ∧ n / 2 ^ 11 = 2 then some (.armDigit (n / 2 ^ 8 % 8) (BitVec.ofNat 8 n))
  else if width = 2 ∧ n = 3 then some .reqReserved
  else none

/-- The decoder, total on every word. `REQ_RESERVED` is read by name so that the machine can refuse it by name. -/
def decode (w : CodeWord) : Option Instr :=
  match w.format with
  | .wire8 st => if w.width = 8 ∧ w.bits < 2 ^ 8 then decodeWire st w.bits else none
  | .tick5 place => if w.width = 5 ∧ w.bits < 2 ^ 5 then decodeTick place w.bits else none
  | .bound6 place => if w.width = 6 ∧ w.bits < 2 ^ 6 then decodeBound place w.bits else none
  | .req => decodeReq w.width w.bits

/-! ### The encoder -/

/-- A call as the arming operation it expands to (R73), given the persisted `display_on` and `brightness`; every other
instruction is itself. A call outside what the spec covers has no expansion and stays itself. -/
def Instr.expand (displayOn : Bool) (brightness : BitVec 3) : Instr → Instr
  | .setDigit position v => if 0 ≤ position then .armDigit position.toNat v else .setDigit position v
  | .clearAll => .armAll Machine.zeroBytes
  | .setPower on => .armCtrl on brightness
  | .setBrightness level => .armCtrl displayOn level
  | .setInteger value =>
    match Machine.coveredInteger value with
    | some n => .armAll (Machine.formatInteger n)
    | none => .setInteger value
  | .setFloat value decimals =>
    match Machine.coveredFloat value decimals with
    | some (q, point) => .armAll (Machine.formatFloat q point)
    | none => .setFloat value decimals
  | i => i

/-- The descriptor of `ARM_ALL`: 01 and then six bytes, b[0] most significant (R68). -/
def armAllBits (b : Vector Byte 6) : Nat :=
  2 ^ 48 + b[0].toNat * 2 ^ 40 + b[1].toNat * 2 ^ 32 + b[2].toNat * 2 ^ 24 + b[3].toNat * 2 ^ 16
    + b[4].toNat * 2 ^ 8 + b[5].toNat

/-- The word of an instruction that is no call. A shared selector is written at a cursor its row holds at. -/
def encodeCore : Instr → CodeWord
  | .cmdDataFixed => ⟨.wire8 .sendingDataCmd, 8, 0x44⟩
  | .cmdDataAuto => ⟨.wire8 .sendingDataCmd, 8, 0x40⟩
  | .cmdAddr a => ⟨.wire8 .sendingAddressCmd, 8, 0xC0 + a.toNat⟩
  | .cmdDispCtrl p b => ⟨.wire8 .sendingDisplayCtrlCmd, 8, 0x80 + p.toNat * 8 + b.toNat⟩
  | .payload v => ⟨.wire8 .sendingPayloadBytes, 8, v.toNat⟩
  | .tStart => ⟨.tick5 .startPrefix, 5, 0⟩
  | .tBit b => ⟨.tick5 .cell, 5, b.toNat * 2⟩
  | .tClkhi t => ⟨.tick5 .cell, 5, t.toNat * 2 + 1⟩
  | .tAck => ⟨.tick5 .cell, 5, 0x10⟩
  | .tTail => ⟨.tick5 .cell, 5, 0x12⟩
  | .tWrap t => ⟨.tick5 .wrapSuffix, 5, t.toNat⟩
  | .wStop st m => ⟨.bound6 .stopPrefix, 6, boundSelector st m true⟩
  | .wDataToAddr m => ⟨.bound6 (.row 0), 6, boundSelector .sendingDataCmd m true⟩
  | .wAddrToPayload m => ⟨.bound6 (.row 0), 6, boundSelector .sendingAddressCmd m false⟩
  | .wSingleDone => ⟨.bound6 (.row 0), 6, 0x25⟩
  | .wSixNext => ⟨.bound6 (.row 0), 6, 0x22⟩
  | .wSixLast => ⟨.bound6 (.row 4), 6, 0x22⟩
  | .wSixDone => ⟨.bound6 (.row 5), 6, 0x23⟩
  | .wCtrlDone => ⟨.bound6 (.row 0), 6, 0x19⟩
  | .seqFault st m stop => ⟨.bound6 (.row 5), 6, boundSelector st m stop⟩
  | .armCtrl on level => ⟨.req, 6, on.toNat * 8 + level.toNat⟩
  | .armAll b => ⟨.req, 50, armAllBits b⟩
  | .armDigit position v => ⟨.req, 13, 2 ^ 12 + position % 8 * 2 ^ 8 + v.toNat⟩
  | .reqReserved => ⟨.req, 2, 3⟩
  -- a call that has no expansion has no descriptor: an empty word, which no format reads
  | .setDigit _ _ | .clearAll | .setPower _ | .setBrightness _ | .setInteger _ | .setFloat _ _ => ⟨.req, 0, 0⟩

/-- The encoder: an instruction's word, a call's being the descriptor it expands to (R60, R73). -/
def encode (displayOn : Bool) (brightness : BitVec 3) (i : Instr) : CodeWord := encodeCore (i.expand displayOn brightness)

/-! ### The opcode table -/

/-- One row of spec/opcode_table.json: width, mask and match. -/
structure OpcodeRow where
  mnemonic : String
  width : Nat
  mask : Nat
  pattern : Nat
  deriving DecidableEq, Repr

/-- An instruction's row of spec/opcode_table.json. -/
def Instr.tableRow : Instr → OpcodeRow
  | .cmdDataFixed => ⟨"CMD_DATA_FIXED", 8, 0xFF, 0x44⟩
  | .cmdDataAuto => ⟨"CMD_DATA_AUTO", 8, 0xFF, 0x40⟩
  | .cmdAddr _ => ⟨"CMD_ADDR", 8, 0xF8, 0xC0⟩
  | .cmdDispCtrl _ _ => ⟨"CMD_DISP_CTRL", 8, 0xF0, 0x80⟩
  | .payload _ => ⟨"PAYLOAD", 8, 0x00, 0x00⟩
  | .tStart => ⟨"T_START", 5, 0x1F, 0x00⟩
  | .tBit _ => ⟨"T_BIT", 5, 0x11, 0x00⟩
  | .tClkhi _ => ⟨"T_CLKHI", 5, 0x01, 0x01⟩
  | .tAck => ⟨"T_ACK", 5, 0x1F, 0x10⟩
  | .tTail => ⟨"T_TAIL", 5, 0x1F, 0x12⟩
  | .tWrap _ => ⟨"T_WRAP", 5, 0x00, 0x00⟩
  | .wStop _ _ => ⟨"W_STOP", 6, 0x01, 0x01⟩
  | .wDataToAddr _ => ⟨"W_DATA_TO_ADDR", 6, 0x39, 0x09⟩
  | .wAddrToPayload _ => ⟨"W_ADDR_TO_PAYLOAD", 6, 0x39, 0x10⟩
  | .wSingleDone => ⟨"W_SINGLE_DONE", 6, 0x3F, 0x25⟩
  | .wSixNext => ⟨"W_SIX_NEXT", 6, 0x3F, 0x22⟩
  | .wSixLast => ⟨"W_SIX_LAST", 6, 0x3F, 0x22⟩
  | .wSixDone => ⟨"W_SIX_DONE", 6, 0x3F, 0x23⟩
  | .wCtrlDone => ⟨"W_CTRL_DONE", 6, 0x3F, 0x19⟩
  | .seqFault _ _ _ => ⟨"SEQ_FAULT", 6, 0x00, 0x00⟩
  | .armCtrl _ _ => ⟨"ARM_CTRL", 6, 0x30, 0x00⟩
  | .armAll _ => ⟨"ARM_ALL", 50, 0x3000000000000, 0x1000000000000⟩
  | .armDigit _ _ => ⟨"ARM_DIGIT", 13, 0x1800, 0x1000⟩
  | .reqReserved => ⟨"REQ_RESERVED", 2, 0x3, 0x3⟩
  | .setDigit _ _ => ⟨"set_digit", 13, 0x1800, 0x1000⟩
  | .clearAll => ⟨"clear_all", 50, 0x3FFFFFFFFFFFF, 0x1000000000000⟩
  | .setPower _ => ⟨"set_power", 6, 0x30, 0x00⟩
  | .setBrightness _ => ⟨"set_brightness", 6, 0x30, 0x00⟩
  | .setInteger _ => ⟨"set_integer", 50, 0x3000000000000, 0x1000000000000⟩
  | .setFloat _ _ => ⟨"set_float", 50, 0x3000000000000, 0x1000000000000⟩

/-! ### The host's table words -/

/-- The readings of a table word of one byte, the rows with the most fixed bits first and PAYLOAD, which fixes none,
last. A bare byte does not say its format; this order is the model's own. The words of ARM_CTRL, 0x00..0x0F, all read as
tick words. DESIGN CHOICE, log entry 12. -/
def byteReadings (w : Nat) : List (Option Instr) :=
  [ decode ⟨.wire8 .sendingDataCmd, 8, w⟩,
    if w ∈ [0x19, 0x22, 0x23, 0x25] then decode ⟨.bound6 (.row 0), 6, w⟩ else none,
    decode ⟨.req, 2, w⟩,
    if w = 0x00 then decode ⟨.tick5 .startPrefix, 5, w⟩ else none,
    if w ∈ [0x10, 0x12] then decode ⟨.tick5 .cell, 5, w⟩ else none,
    decode ⟨.wire8 .sendingAddressCmd, 8, w⟩,
    decode ⟨.wire8 .sendingDisplayCtrlCmd, 8, w⟩,
    if w ∈ [0x09, 0x0B, 0x0D, 0x14] then decode ⟨.bound6 (.row 0), 6, w⟩ else none,
    decode ⟨.tick5 .cell, 5, w⟩,
    decode ⟨.bound6 .stopPrefix, 6, w⟩,
    decode ⟨.wire8 .sendingPayloadBytes, 8, w⟩ ]

/-- The instruction read from a table word of `nbits` bits, in whole bytes: one byte by `byteReadings`, two bytes as the
13-bit `ARM_DIGIT`, seven bytes as the 50-bit `ARM_ALL` (R68). A word with the table's own width is read alike. -/
def decodeTableWord (nbits w : Nat) : Option Instr :=
  if nbits ≤ 8 then (byteReadings w).findSome? id
  else if nbits = 13 ∨ nbits = 16 then decode ⟨.req, 13, w⟩
  else if nbits = 50 ∨ nbits = 56 then decode ⟨.req, 50, w⟩
  else none

end Sys2Proof
end

