-- ==== Sys2Proof/Machine/Schedule.lean ====
section
/-! DEFINITION. Which agent has the next step, what it fetches, and how an instruction is put where it is fetched
(spec 00_scope.md R6, R8; 40_requests.md R80; 41_tick_sequencer.md R100, R101; 60_exceptions.md R164, R167, R176). -/

namespace Sys2Proof.Machine

/-- HOST's next call was made from an interrupt context of the tick's priority or a higher one and spins there while a
transfer runs: the tick cannot run (R164, R201). -/
def tickBlocked (s : State) : Bool :=
  match s.hostCalls with
  | [] => false
  | c :: _ => decide (c.context = .tickOrHigher) && decide (s.state ≠ .ready)

/-- The tick source has a tick for the block: its interrupt is started (R100), it is not starved (R176) and no spinning
caller keeps it from running (R164). -/
def tickRuns (s : State) : Bool := s.tickEnable && !s.tickStarved && !tickBlocked s

/-- The next step of the machine. -/
inductive Turn where
  /-- TICK runs its callback once. -/
  | tick
  /-- HOST carries out its next call. -/
  | host (call : Instr)
  /-- No agent has an enabled step: both hold (R8), which is idle in `Ready` and a stall or a hang otherwise. -/
  | hold
  deriving DecidableEq, Repr

/-- Whose turn it is. A request and a tick are never both enabled in a reachable state (R167). -/
def turn (s : State) : Turn :=
  if tickRuns s then .tick
  else if s.tickEnable then .hold
  else
    match s.hostCalls with
    | [] => .hold
    | c :: _ => if s.state = .ready then .host c.call else .hold

/-- The instruction TICK stands at: the current byte, read as the byte of a window in this state (R61, R101). -/
def fetchByte (s : State) : Option Instr :=
  match currentByte s with
  | some B => decode ⟨.wire8 s.state, 8, B.toNat⟩
  | none => none

/-- A TICK step on the current byte as it is, for a byte that is no row of its window: such a byte is never emitted
(R71), and the sequencer would shift it like any other (R101). -/
def tickRaw (s : State) : StepResult :=
  match currentByte s with
  | some B => tickStep B s
  | none => .refused .noCurrentByte

/-! ### Placing an instruction where it is fetched -/

/-- Make TICK's next step possible: the tick interrupt started, not starved, not blocked. -/
def enableTick (s : State) : State :=
  { s with tickEnable := true, tickStarved := false, hostCalls := if tickBlocked s then [] else s.hostCalls }

/-- The state in which a byte of a window in state `st` is the current byte, at the first tick of its window. -/
def placeByte (st : EngineState) (B : Byte) (s : State) : State :=
  match st with
  | .ready => s
  | .sendingDataCmd => enableTick (((s.setCmd 0 B).setState st).setTick 0)
  | .sendingAddressCmd => enableTick (((s.setCmd 1 B).setState st).setTick 0)
  | .sendingDisplayCtrlCmd => enableTick (((s.setCmd 2 B).setState st).setTick 0)
  | .sendingPayloadBytes => enableTick (((s.setPay s.payloadCursor B).setState st).setTick 0)

/-- The state in which the next TICK step is that of tick t; a transfer must be running. -/
def placeTick (t : Fin 19) (s : State) : State :=
  enableTick ((if s.state = .ready then s.setState .sendingDataCmd else s).setTick t)

/-- The state in which the next TICK step ends a window with this selector. -/
def placeBoundary (st : EngineState) (m : Method) (stop : Bool) (cursor : Fin 6) (s : State) : State :=
  enableTick ((((((s.setState st).setMethod m).setFlags s.startPending stop).setCursor cursor)).setTick 18)

/-- The state in which HOST's next step is this call. -/
def placeCall (i : Instr) (s : State) : State :=
  { s with state := .ready, tickEnable := false, hostCalls := ⟨i, .foreground⟩ :: s.hostCalls }

/-- The state whose very next step runs the instruction (log entry 11). A micro-operation and a boundary row are run by
the TICK step that selects them. -/
def placeInstr (i : Instr) (s : State) : State :=
  match i with
  | .cmdDataFixed => placeByte .sendingDataCmd Config.dataCmdFixed s
  | .cmdDataAuto => placeByte .sendingDataCmd Config.dataCmdAuto s
  | .cmdAddr a => placeByte .sendingAddressCmd (addressByte a) s
  | .cmdDispCtrl p b => placeByte .sendingDisplayCtrlCmd (ctrlByte p b) s
  | .payload v => placeByte .sendingPayloadBytes v s
  | .tStart => placeTick 0 { s with startPending := true }
  | .tBit b => placeTick ⟨b.toNat * 2, by omega⟩ s
  | .tClkhi t => placeTick (if h : t.toNat * 2 + 1 < 19 then ⟨t.toNat * 2 + 1, h⟩ else 1) s
  | .tAck => placeTick 16 s
  | .tTail => placeTick 18 s
  | .tWrap t => placeTick (if h : t.toNat < 19 then ⟨t.toNat, h⟩ else 0) s
  | .wStop st m => placeBoundary st m true s.payloadCursor s
  | .wDataToAddr m => placeBoundary .sendingDataCmd m true s.payloadCursor s
  | .wAddrToPayload m => placeBoundary .sendingAddressCmd m false s.payloadCursor s
  | .wSingleDone => placeBoundary .sendingPayloadBytes .singleByteFixedAddress true s.payloadCursor s
  | .wSixNext => placeBoundary .sendingPayloadBytes .sixByteAutoAddress false 0 s
  | .wSixLast => placeBoundary .sendingPayloadBytes .sixByteAutoAddress false 4 s
  | .wSixDone => placeBoundary .sendingPayloadBytes .sixByteAutoAddress true 5 s
  | .wCtrlDone => placeBoundary .sendingDisplayCtrlCmd .displayControl true s.payloadCursor s
  | .seqFault st m stop => placeBoundary st m stop 5 s
  | .armCtrl _ _ | .armAll _ | .armDigit _ _ | .reqReserved => placeCall i s
  | .setDigit _ _ | .clearAll | .setPower _ | .setBrightness _ | .setInteger _ | .setFloat _ _ => placeCall i s

end Sys2Proof.Machine
end

