-- ==== Sys2Proof/Machine/Step.lean ====
section
/-! DEFINITION. One step of the machine: one atomic step of HOST (a request) or of TICK (one callback), as spec
00_scope.md R6 and 20_memory.md R51 have them. -/

namespace Sys2Proof.Machine

/-- One step. -/
def step (s : State) : Host.Outcome State Fault Refusal :=
  match turn s with
  | .host i => if i.isRequest then exec i s.takeCall else .refused .notARequest
  | .tick =>
    match fetchByte s with
    | some i => exec i s
    | none => tickRaw s
  | .hold => .next s

/-- The state whose next step runs the instruction of a table word; an undecodable word is no instruction and changes
nothing. -/
def State.withFetchWord (s : State) (nbits w : Nat) : State :=
  match decodeTableWord nbits w with
  | some i => placeInstr i s
  | none => s

end Sys2Proof.Machine
end

