-- ==== Sys2Proof/Machine/Observe.lean ====
section
/-! DEFINITION. What an observer of the two wires makes of the level trace (spec 00_scope.md R7; 20_memory.md R43, R47;
41_tick_sequencer.md R109; 95_test_vectors.md P1). None of this is state of the machine: the receiver is outside the
block (R4), and the display-memory writes are the informative effect of R47. -/

namespace Sys2Proof.Machine

/-- The level pairs after each TICK step of a window (R109): byte B, tick t, and whether a stop condition ends it. -/
def waveform (B : Byte) (stop : Bool) (t : Nat) : LinePair :=
  if t = 18 then ⟨stop, stop⟩
  else if t = 17 then ⟨true, true⟩
  else if t = 16 then ⟨false, true⟩
  else ⟨decide (t % 2 = 1), bitOf B (t / 2)⟩

/-- What one change of the lines means to a receiver (R9 start/stop condition, R104, R109). -/
inductive WireEvent where
  /-- The data line falls while the clock is high. -/
  | start
  /-- The data line rises while the clock is high. -/
  | stop
  /-- The clock rises: the data level is valid on this edge (R104). -/
  | bit (level : Level)
  deriving DecidableEq, Repr

/-- The event of one change of the lines, if it is one. -/
def wireEvent (before after : LinePair) : List WireEvent :=
  if before.clk && after.clk then
    if before.dio && !after.dio then [.start] else if !before.dio && after.dio then [.stop] else []
  else if !before.clk && after.clk then [.bit after.dio]
  else []

/-- The events of a level trace that begins at the pair `entering`. -/
def wireEvents (entering : LinePair) : List LinePair → List WireEvent
  | [] => []
  | p :: rest => wireEvent entering p ++ wireEvents p rest

/-- The events of one byte: its eight bits, least significant first (R43), and the ninth clock, the released
acknowledge slot (R105). -/
def byteEvents (B : Byte) : List WireEvent :=
  [.bit (bitOf B 0), .bit (bitOf B 1), .bit (bitOf B 2), .bit (bitOf B 3), .bit (bitOf B 4), .bit (bitOf B 5),
    .bit (bitOf B 6), .bit (bitOf B 7), .bit true]

/-- The events of one frame: start, its bytes, and the stop with the clock rise that goes before it (R109: the tenth
rising edge, inside tick 18). -/
def frameEvents (bytes : List Byte) : List WireEvent :=
  .start :: bytes.flatMap byteEvents ++ [.bit false, .stop]

/-- The frames of a transfer (R131): the data command is a frame of its own. -/
def singleFrames (a : Fin 6) (v : Byte) : List (List Byte) := [[Config.dataCmdFixed], [addressByteOf a, v]]

/-- The frames of a six-byte transfer (R131). -/
def sixFrames (p : Vector Byte 6) : List (List Byte) := [[Config.dataCmdAuto], addressByteOf 0 :: p.toList]

/-- The frame of a display-control transfer (R131). -/
def controlFrames (on : Bool) (level : BitVec 3) : List (List Byte) := [[ctrlByte on level]]

/-- How many bytes a transfer of each method has (R19, R131). -/
def transferBytes : Method → Nat
  | .displayControl => 1
  | .sixByteAutoAddress => 8
  | .singleByteFixedAddress => 3

/-- The receiver's reading of the events: bits collected between a start and a stop, cut into groups of nine (eight
data bits and the acknowledge slot), an incomplete group dropped. -/
def collectByte : List Level → Byte
  | b0 :: b1 :: b2 :: b3 :: b4 :: b5 :: b6 :: b7 :: _ =>
    BitVec.ofNat 8 (b0.toNat + b1.toNat * 2 + b2.toNat * 4 + b3.toNat * 8 + b4.toNat * 16 + b5.toNat * 32
      + b6.toNat * 64 + b7.toNat * 128)
  | _ => 0#8

/-- Read frames: `bits` are the bits of the byte being received, `frame` the bytes of the frame so far. -/
def readFrames (bits : List Level) (frame : List Byte) : List WireEvent → List (List Byte)
  | [] => []
  | .start :: rest => readFrames [] [] rest
  | .stop :: rest => frame :: readFrames [] [] rest
  | .bit b :: rest =>
    if bits.length = 8 then readFrames [] (frame ++ [collectByte bits]) rest else readFrames (bits ++ [b]) frame rest

/-- The cells a frame's data bytes go to, from address a on: the same address in fixed-address mode, the next one after
each byte in auto-address mode (R45). -/
def memWrites (auto : Bool) (a : Nat) : List Byte → List Host.Cell
  | [] => []
  | v :: rest => (a, v) :: memWrites auto (if auto then a + 1 else a) rest

/-- The intended effect of a list of frames on the receiver's display memory, in order (R47, informative): a data
command chooses the mode, an address command and its bytes write cells, a display-control command writes none. -/
def intendedWrites (auto : Bool) : List (List Byte) → List Host.Cell
  | [] => []
  | [] :: rest => intendedWrites auto rest
  | (c :: data) :: rest =>
    if c = Config.dataCmdFixed then intendedWrites false rest
    else if c = Config.dataCmdAuto then intendedWrites true rest
    else if c.toNat / 64 = 3 then memWrites auto (c.toNat % 8) data ++ intendedWrites auto rest
    else intendedWrites auto rest

end Sys2Proof.Machine
end

