-- ==== Sys2Proof/Safety.lean ====
section
/-! DEFINITION. What counts as a safe state: the invariants of spec 10_state.md R29, and the conditions on a state and
its calls that claims are stated under. -/

namespace Sys2Proof.Machine

/-- The lines hold this pair. -/
abbrev State.linesAre (s : State) (clk dio : Level) : Prop := s.clockLine = clk ∧ s.dataLine = dio

/-- R29 item 2: the timer runs exactly while a transfer does, and a new window starts at tick 0. -/
abbrev State.TimerMatchesState (s : State) : Prop :=
  (s.state = .ready → s.tickEnable = false ∧ s.tick = 0) ∧ (s.state ≠ .ready → s.tickEnable = true)

/-- R29 item 5. -/
abbrev State.DataWindowFlags (s : State) : Prop :=
  s.state = .sendingDataCmd →
    s.startPending = true ∧ s.stopPending = true ∧ s.transferMethod ≠ .displayControl

/-- R29 item 6. -/
abbrev State.AddressWindowFlags (s : State) : Prop :=
  s.state = .sendingAddressCmd →
    s.startPending = true ∧ s.stopPending = false ∧ s.transferMethod ≠ .displayControl

/-- R29 item 7. -/
abbrev State.ControlWindowFlags (s : State) : Prop :=
  s.state = .sendingDisplayCtrlCmd →
    s.startPending = true ∧ s.stopPending = true ∧ s.transferMethod = .displayControl

/-- R29 item 8, with the method of a payload window, which is one of the two that have payload bytes. -/
abbrev State.PayloadWindowFlags (s : State) : Prop :=
  s.state = .sendingPayloadBytes →
    s.startPending = false ∧ s.transferMethod ≠ .displayControl ∧
    (s.transferMethod = .singleByteFixedAddress → s.stopPending = true) ∧
    (s.transferMethod = .sixByteAutoAddress → (s.stopPending = true ↔ s.payloadCursor = 5))

/-- R29 item 9: the bus is idle in `Ready`. -/
abbrev State.IdleLines (s : State) : Prop := s.state = .ready → s.linesAre true true

/-- R29 item 10: the lines at the start of a window. -/
abbrev State.WindowLines (s : State) : Prop :=
  s.state ≠ .ready → s.tick = 0 → s.linesAre s.startPending s.startPending

/-- The six-byte method's cursor stands at 0 until the first payload window (R82, R123). -/
abbrev State.SixStartsAtZero (s : State) : Prop :=
  (s.state = .sendingDataCmd ∨ s.state = .sendingAddressCmd) → s.transferMethod = .sixByteAutoAddress →
    s.payloadCursor = 0

/-- The command bytes of a running transfer are those its method loads (R62 to R64, R70, R81 to R83). -/
abbrev State.CommandBytesMatch (s : State) : Prop :=
  (s.state = .sendingDataCmd → s.transferMethod = .singleByteFixedAddress →
    s.commandBytes[0] = Config.dataCmdFixed) ∧
  (s.state = .sendingDataCmd → s.transferMethod = .sixByteAutoAddress →
    s.commandBytes[0] = Config.dataCmdAuto) ∧
  ((s.state = .sendingDataCmd ∨ s.state = .sendingAddressCmd) →
    s.commandBytes[1] = addressByteOf s.payloadCursor) ∧
  (s.state = .sendingDisplayCtrlCmd → s.commandBytes[2].toNat / 16 = 8)

/-- The invariant: the items of R29 that a type does not already hold (`tick` in 0..18 and `payload_cursor` in 0..5 are
held by their types), and what the running transfer has loaded. -/
abbrev State.Inv (s : State) : Prop :=
  s.TimerMatchesState ∧ s.DataWindowFlags ∧ s.AddressWindowFlags ∧ s.ControlWindowFlags ∧ s.PayloadWindowFlags ∧
  s.IdleLines ∧ s.WindowLines ∧ s.SixStartsAtZero ∧ s.CommandBytesMatch

/-- A call the spec gives an effect: not the reserved request, and a formatting call on covered operands only. -/
def callCovered : Instr → Bool
  | .reqReserved => false
  | .setInteger value => (coveredInteger value).isSome
  | .setFloat value decimals => (coveredFloat value decimals).isSome
  | i => i.isRequest

/-- Every call HOST has still to make is covered. -/
abbrev State.CallsCovered (s : State) : Prop := ∀ c ∈ s.hostCalls, callCovered c.call = true

/-- The fairness assumption of R7, R176 and the precondition of R89: ticks are delivered, and every call is made from
the foreground. Under it a started tick interrupt always has a next tick. -/
abbrev State.Live (s : State) : Prop :=
  s.tickStarved = false ∧ ∀ c ∈ s.hostCalls, c.context = .foreground

/-- Everything but the two lines and the level trace is as before. -/
abbrev SameButLines (s t : State) : Prop :=
  t = { s with clockLine := t.clockLine, dataLine := t.dataLine, levelTrace := t.levelTrace }

/-- The current window's boundary has a row (R67, R120). -/
abbrev State.BoundaryHasRow (s : State) : Prop :=
  hasRowForEveryCursor s.state s.transferMethod s.stopPending = true ∨
  (s.state = .sendingPayloadBytes ∧ s.transferMethod = .sixByteAutoAddress ∧ s.stopPending = false ∧ s.payloadCursor ≠ 5)

end Sys2Proof.Machine
end

