-- ==== Sys2Proof/Certificates/Slice0/Obligations.lean ====
section
/-! DEFINITION. The statements for the provers. Each docstring names the rule of the spec it formalises; where a clause
rests on a decision of the spec (92_eei_decisions.md D<n>) or on a log entry of this model, it says so. -/

open Sys2Proof Sys2Proof.Machine

/-! ### Reset -/

/-- Spec 10_state.md section 9 (R30), for every value of what it leaves open (`display_on`, `brightness`, the buffers);
the values are the spec's own decision D15, the empty output logs log entry 2. -/
def Obligations.ResetIsReadyWithTimerStopped : Prop :=
  ∀ (on : Bool) (level : BitVec 3) (cmd : Vector Byte 3) (pay : Vector Byte 6),
    let s := State.resetWith on level cmd pay
    s.state = .ready ∧ s.ready = true ∧ s.tickEnable = false ∧ s.tick = 0 ∧ s.clockLine = true ∧ s.dataLine = true ∧
    s.startPending = false ∧ s.stopPending = false ∧ s.transferMethod = .displayControl ∧ s.payloadCursor = 0 ∧
    s.displayOn = on ∧ s.brightness = level ∧ s.commandBytes = cmd ∧ s.payloadBytes = pay ∧
    s.levelTrace = [] ∧ s.results = [] ∧ s.hostCalls = [] ∧ s.tickStarved = false

/-- Spec 70_reset_and_hazards.md section 1 (R193): after reset TICK has no step and a request is served at once. -/
def Obligations.ResetServesTheFirstRequestAtOnce : Prop :=
  ∀ (on : Bool) (level : BitVec 3) (cmd : Vector Byte 3) (pay : Vector Byte 6),
    let s := State.resetWith on level cmd pay
    turn s = .hold ∧ step s = .next s ∧
    ∀ c : HostCall, c.call.isRequest = true → step { s with hostCalls := [c] } = exec c.call s

/-! ### Operands and encodings -/

/-- R41: `PERM` is the table {0↦3, 1↦4, 2↦5, 3↦0, 4↦1, 5↦2} and its own inverse. -/
def Obligations.PermutationIsItsOwnInverse : Prop :=
  perm 0 = 3 ∧ perm 1 = 4 ∧ perm 2 = 5 ∧ perm 3 = 0 ∧ perm 4 = 1 ∧ perm 5 = 2 ∧
  (∀ d, perm d = ⟨(d.val + 3) % 6, Nat.mod_lt _ (Nat.zero_lt_succ 5)⟩) ∧ (∀ d, perm (perm d) = d) ∧
  (∀ a, permInv a = perm a)

/-- R142: the digit by repeated modulo and divide is `(n / 10^k) mod 10`, and the six digits determine n below 10^6. -/
def Obligations.DigitsAreQuotientsAndDetermineTheNumber : Prop :=
  (∀ n k : Nat, digit n k = n / 10 ^ k % 10) ∧
  (∀ n : Nat, n ≤ 999999 → n = (List.range 6).foldl (fun sum k => sum + digit n k * 10 ^ k) 0)

/-- Spec 30_encoding.md sections 1 to 4 and 7: decoding an encoded well-formed instruction gives it back, a call as the
arming operation it expands to. The codes are the spec's own (D2, D3). -/
def Obligations.DecodeOfEncodeGivesTheInstruction : Prop :=
  ∀ (on : Bool) (level : BitVec 3) (i : Instr), i.wellFormed = true →
    decode (encode on level i) = some (i.expand on level) ∧ (i.isCall = false → i.expand on level = i) ∧
    (i.isCall = true → (i.expand on level).isCall = false ∧ (i.expand on level).isRequest = true)

/-- Spec 30_encoding.md sections 1 to 4: a decoded instruction encodes to the bits it was read from, so no two words of
one format and place decode alike and no bit is dropped. -/
def Obligations.EncodeOfDecodeGivesTheWord : Prop :=
  ∀ (on : Bool) (level : BitVec 3) (w : CodeWord) (i : Instr), decode w = some i →
    (encode on level i).bits = w.bits ∧ (encode on level i).width = w.width ∧ w.bits < 2 ^ w.width ∧
    i.isCall = false ∧ (i.wellFormed = true ∨ i = .reqReserved)

/-- Spec 30_encoding.md (R60 to R68) against spec/opcode_table.json: every encoded word matches the mask and the match of
its own row and has the row's width. -/
def Obligations.EncodedWordMatchesItsTableRow : Prop :=
  ∀ (on : Bool) (level : BitVec 3) (i : Instr), i.wellFormed = true →
    (encode on level i).width = i.tableRow.width ∧
    (encode on level i).bits &&& i.tableRow.mask = i.tableRow.pattern ∧
    (encode on level i).bits < 2 ^ i.tableRow.width

/-- Words written out from the spec's encodings (30_encoding.md sections 2 to 4, 95_test_vectors.md 2.1 and P1 to P4). -/
def Obligations.SpecWordsDecode : Prop :=
  decode ⟨.wire8 .sendingDataCmd, 8, 0b01000100⟩ = some .cmdDataFixed ∧
  decode ⟨.wire8 .sendingDataCmd, 8, 0b01000000⟩ = some .cmdDataAuto ∧
  decode ⟨.wire8 .sendingAddressCmd, 8, 0b11000011⟩ = some (.cmdAddr 3) ∧
  decode ⟨.wire8 .sendingDisplayCtrlCmd, 8, 0b10001010⟩ = some (.cmdDispCtrl true 2) ∧
  decode ⟨.tick5 .cell, 5, 0b01100⟩ = some (.tBit 6) ∧
  decode ⟨.tick5 .cell, 5, 0b10001⟩ = some (.tClkhi 8) ∧
  decode ⟨.tick5 .cell, 5, 0b10010⟩ = some .tTail ∧
  decode ⟨.bound6 (.row 3), 6, 0b100010⟩ = some .wSixNext ∧
  decode ⟨.bound6 (.row 4), 6, 0b100010⟩ = some .wSixLast ∧
  decode ⟨.bound6 (.row 0), 6, 0b001101⟩ = some (.wDataToAddr .singleByteFixedAddress) ∧
  decode ⟨.req, 13, 0b1000000111111⟩ = some (.armDigit 0 0x3F#8) ∧
  decode ⟨.req, 6, 0b001010⟩ = some (.armCtrl true 2)

/-- Spec 30_encoding.md section 6 (R71, D32): encodings that do not exist or are never emitted are refused. -/
def Obligations.ReservedEncodingsAreRefused : Prop :=
  (∀ n, n ≠ 0x44 → n ≠ 0x40 → decode ⟨.wire8 .sendingDataCmd, 8, n⟩ = none) ∧
  (∀ n, n < 0xC0 ∨ 0xC5 < n → decode ⟨.wire8 .sendingAddressCmd, 8, n⟩ = none) ∧
  (∀ n, n < 0x80 ∨ 0x8F < n → decode ⟨.wire8 .sendingDisplayCtrlCmd, 8, n⟩ = none) ∧
  (∀ place n, 18 < n → decode ⟨.tick5 place, 5, n⟩ = none) ∧
  (∀ place n, 40 ≤ n ∨ n / 2 % 4 = 3 → decode ⟨.bound6 place, 6, n⟩ = none) ∧
  (∀ n, n / 2 ^ 11 = 3 → decode ⟨.req, 13, n⟩ = none)

/-! ### Requests -/

/-- Spec 40_requests.md section 2 (R81): `ARM_DIGIT` at each of the six positions. The flags are decision D10. -/
def Obligations.ArmDigitArmsTheSingleByteTransfer : Prop :=
  ∀ (s : State) (d : Fin 6) (v : Byte), s.state = .ready →
    exec (.armDigit d.val v) s = .next { s with
      commandBytes := #v[0x44#8, 0xC0#8 ||| BitVec.ofNat 8 (perm d).val, s.commandBytes[2]]
      payloadBytes := s.payloadBytes.set (perm d) v
      payloadCursor := perm d
      transferMethod := .singleByteFixedAddress
      startPending := true
      stopPending := true
      state := .sendingDataCmd
      tickEnable := true
      results := s.results ++ [.ok] }

/-- Spec 40_requests.md section 2 (R82): `ARM_ALL`. 0x40 is D12, the flags D10, the cursor and address 0 D11. -/
def Obligations.ArmAllArmsTheSixByteTransfer : Prop :=
  ∀ (s : State) (b : Vector Byte 6), s.state = .ready →
    exec (.armAll b) s = .next { s with
      commandBytes := #v[0x40#8, 0xC0#8, s.commandBytes[2]]
      payloadBytes := #v[b[3], b[4], b[5], b[0], b[1], b[2]]
      payloadCursor := 0
      transferMethod := .sixByteAutoAddress
      startPending := true
      stopPending := true
      state := .sendingDataCmd
      tickEnable := true
      results := s.results ++ [.ok] }

/-- Spec 40_requests.md section 2 (R83): `ARM_CTRL`. The byte's layout is D13, the flags D10. -/
def Obligations.ArmCtrlArmsTheControlTransfer : Prop :=
  ∀ (s : State) (on : Bool) (level : BitVec 3), s.state = .ready →
    exec (.armCtrl on level) s = .next { s with
      commandBytes :=
        #v[s.commandBytes[0], s.commandBytes[1], BitVec.ofNat 8 (0x80 + (if on then 8 else 0) + level.toNat)]
      transferMethod := .displayControl
      startPending := true
      stopPending := true
      state := .sendingDisplayCtrlCmd
      tickEnable := true
      results := s.results ++ [.ok] }

/-- Spec 60_exceptions.md section 1 (R161): a position outside 0..5 returns `ERR_BAD_POSITION` and changes nothing. That
nothing changes is decision D16; a negative position is R111's. -/
def Obligations.BadPositionChangesNothing : Prop :=
  ∀ (s : State) (v : Byte), s.state = .ready →
    (∀ p : Nat, 5 < p → exec (.armDigit p v) s = .next { s with results := s.results ++ [.errBadPosition] }) ∧
    (∀ p : Int, p < 0 ∨ 5 < p → exec (.setDigit p v) s = .next { s with results := s.results ++ [.errBadPosition] })

/-- Spec 40_requests.md section 3 (R84): `set_digit` at each of the six positions. -/
def Obligations.SetDigitArmsTheSingleByteTransfer : Prop :=
  ∀ (s : State) (d : Fin 6) (v : Byte), s.state = .ready →
    ∃ t, exec (.setDigit (Int.ofNat d.val) v) s = .next t ∧
      t.commandBytes = #v[0x44#8, 0xC0#8 ||| BitVec.ofNat 8 (perm d).val, s.commandBytes[2]] ∧
      t.payloadBytes = s.payloadBytes.set (perm d) v ∧ t.payloadCursor = perm d ∧
      t.transferMethod = .singleByteFixedAddress ∧ t.startPending = true ∧ t.stopPending = true ∧
      t.state = .sendingDataCmd ∧ t.tickEnable = true ∧ t.results = s.results ++ [.ok] ∧
      t.tick = s.tick ∧ t.displayOn = s.displayOn ∧ t.brightness = s.brightness ∧ t.lines = s.lines ∧
      t.levelTrace = s.levelTrace ∧ t.hostCalls = s.hostCalls ∧ t.tickStarved = s.tickStarved

/-- Spec 40_requests.md section 3 (R85): `clear_all` is `ARM_ALL` of six zero bytes. -/
def Obligations.ClearAllArmsSixZeroBytes : Prop :=
  ∀ s : State, s.state = .ready →
    exec .clearAll s = .next { s with
      commandBytes := #v[0x40#8, 0xC0#8, s.commandBytes[2]]
      payloadBytes := #v[0#8, 0#8, 0#8, 0#8, 0#8, 0#8]
      payloadCursor := 0
      transferMethod := .sixByteAutoAddress
      startPending := true
      stopPending := true
      state := .sendingDataCmd
      tickEnable := true
      results := s.results ++ [.ok] }

/-- Spec 40_requests.md section 3 (R86, R87): each call writes its own persisted field and sends it with the other one.
The byte's layout is D13, the moment of the write D30. -/
def Obligations.PowerAndBrightnessKeepEachOther : Prop :=
  ∀ s : State, s.state = .ready →
    (∀ on, exec (.setPower on) s = .next { s with
      displayOn := on
      commandBytes :=
        #v[s.commandBytes[0], s.commandBytes[1], BitVec.ofNat 8 (0x80 + (if on then 8 else 0) + s.brightness.toNat)]
      transferMethod := .displayControl
      startPending := true
      stopPending := true
      state := .sendingDisplayCtrlCmd
      tickEnable := true
      results := s.results ++ [.ok] }) ∧
    (∀ level, exec (.setBrightness level) s = .next { s with
      brightness := level
      commandBytes :=
        #v[s.commandBytes[0], s.commandBytes[1], BitVec.ofNat 8 (0x80 + (if s.displayOn then 8 else 0) + level.toNat)]
      transferMethod := .displayControl
      startPending := true
      stopPending := true
      state := .sendingDisplayCtrlCmd
      tickEnable := true
      results := s.results ++ [.ok] })

/-- Spec 43_host_formatting.md (R143) with the OPEN `LSD_POSITION` and `LEADING_ZERO_POLICY` at every value (log entry
6): on 0..999999 `set_integer` arms the six-byte transfer with each digit's segment byte at its position's slot. -/
def Obligations.SetIntegerShowsTheDecimalDigits : Prop :=
  ∀ (s : State) (n : Nat), s.state = .ready → n ≤ 999999 →
    ∃ t b, exec (.setInteger (Int.ofNat n)) s = .next t ∧ exec (.armAll b) s = .next t ∧
      (∀ k : Fin 6, b[Config.lsdPosition k] =
        if 0 < k.val ∧ n < 10 ^ k.val ∧ Config.leadingZeroBlank = true then 0#8
        else Config.segTable[n / 10 ^ k.val % 10]'(Nat.mod_lt _ (Nat.zero_lt_succ 9))) ∧
      (∀ k : Fin 6, t.payloadBytes[perm (Config.lsdPosition k)] = b[Config.lsdPosition k]) ∧
      t.state = .sendingDataCmd ∧ t.transferMethod = .sixByteAutoAddress ∧ t.results = s.results ++ [.ok]

/-- Spec 43_host_formatting.md (R144, R145) with `scale`, `LSD_POSITION` and `LEADING_ZERO_POLICY` OPEN (log entry 6) and
`DP_BIT` = 0x80 (D24): on covered operands `set_float` arms the six-byte transfer, the decimal point on the slot of index
`decimals - 1` and on no other. -/
def Obligations.SetFloatShowsTheScaledDigitsAndThePoint : Prop :=
  ∀ (s : State) (q : ℚ) (point : Fin 3), s.state = .ready → 0 ≤ q → q ≤ 999999 →
    ∃ t b, exec (.setFloat (.finite q) (point.val + 1)) s = .next t ∧ exec (.armAll b) s = .next t ∧
      (∀ k : Fin 6, b[Config.lsdPosition k] =
        (if 0 < k.val ∧ (Config.scale q point).val < 10 ^ k.val ∧ Config.leadingZeroBlank = true then 0#8
          else Config.segTable[(Config.scale q point).val / 10 ^ k.val % 10]'(Nat.mod_lt _ (Nat.zero_lt_succ 9)))
        ||| (if k.val = point.val then 0x80#8 else 0#8)) ∧
      (∀ k : Fin 6, t.payloadBytes[perm (Config.lsdPosition k)] = b[Config.lsdPosition k]) ∧
      t.state = .sendingDataCmd ∧ t.transferMethod = .sixByteAutoAddress ∧ t.results = s.results ++ [.ok]

/-- Spec 92_eei_decisions.md D24 and 93_implementation_defined.md U21, 30_encoding.md section 6 (R71): the formatting
calls refuse what the source does not cover, and the reserved request is refused, in every state. -/
def Obligations.UncoveredAndReservedRequestsAreRefused : Prop :=
  ∀ s : State,
    (∀ v : Int, v < 0 ∨ 999999 < v → exec (.setInteger v) s = .refused .formatNotCovered) ∧
    (∀ (q : ℚ) (k : Nat), q < 0 ∨ 999999 < q ∨ k = 0 ∨ 3 < k →
      exec (.setFloat (.finite q) k) s = .refused .formatNotCovered) ∧
    (∀ (neg : Bool) (k : Nat), exec (.setFloat (.infinite neg) k) s = .refused .formatNotCovered) ∧
    (∀ k : Nat, exec (.setFloat .nan k) s = .refused .formatNotCovered) ∧
    exec .reqReserved s = .refused .reservedRequest

/-- Spec 40_requests.md section 1 (R80; the model of the wait is D19): while `state ≠ Ready` a request changes nothing. -/
def Obligations.HeldRequestChangesNothing : Prop :=
  ∀ (i : Instr) (s : State), callCovered i = true → s.state ≠ .ready → exec i s = .next s

/-- Spec 10_state.md section 10 (R31, D25): no request moves a line, the counter or HOST's and the timer's surroundings,
and one that answers while `Ready` returns exactly one result; it arms exactly when that result is `OK`. -/
def Obligations.RequestsLeaveTheWireAlone : Prop :=
  ∀ (i : Instr) (s t : State), i.isRequest = true → exec i s = .next t →
    t.clockLine = s.clockLine ∧ t.dataLine = s.dataLine ∧ t.levelTrace = s.levelTrace ∧ t.tick = s.tick ∧
    t.hostCalls = s.hostCalls ∧ t.tickStarved = s.tickStarved ∧
    (s.state = .ready →
      (t.results = s.results ++ [.ok] ∧ t.state ≠ .ready ∧ t.tickEnable = true) ∨
      (t.results = s.results ++ [.errBadPosition] ∧ t = { s with results := t.results }))

/-- Spec 10_state.md section 5 (R20, R21): `display_on` is written by `set_power` alone and `brightness` by
`set_brightness` alone, over all instructions. -/
def Obligations.OnlyItsOwnCallWritesAPersistedField : Prop :=
  ∀ (i : Instr) (s t : State), exec i s = .next t →
    ((∀ on, i ≠ .setPower on) → t.displayOn = s.displayOn) ∧
    ((∀ level, i ≠ .setBrightness level) → t.brightness = s.brightness)

/-! ### Pins and micro-operations -/

/-- Spec 00_scope.md section 6 (R8, R7): a pin write sets its line, and the trace gains the new pair exactly when the
level changed. -/
def Obligations.PinWriteDrivesOneLine : Prop :=
  ∀ (s : State) (level : Level),
    s.pinWrite .clk level = { s with
      clockLine := level
      levelTrace := if s.clockLine = level then s.levelTrace else s.levelTrace ++ [⟨level, s.dataLine⟩] } ∧
    s.pinWrite .dio level = { s with
      dataLine := level
      levelTrace := if s.dataLine = level then s.levelTrace else s.levelTrace ++ [⟨s.clockLine, level⟩] }

/-- R104: the odd ticks select `T_CLKHI`, which drives the clock high and touches nothing else. -/
def Obligations.ClockHighRaisesTheClockAlone : Prop :=
  (∀ n : Nat, n ≤ 8 → decode ⟨.tick5 .cell, 5, 2 * n + 1⟩ = some (.tClkhi (BitVec.ofNat 4 n))) ∧
  ∀ (t : BitVec 4) (s : State), exec (.tClkhi t) s = .next { s with
    clockLine := true
    levelTrace := if s.clockLine = true then s.levelTrace else s.levelTrace ++ [⟨true, s.dataLine⟩] }

/-- Spec 41_tick_sequencer.md section 2 (R102, R103, R105, R106): the levels each micro-operation leaves, and that it
touches nothing but the lines and the trace of their changes. The orders are D6 and D7, tick 18's writes D8; `T_BIT`
needs a byte, so a state other than `Ready` (R101). -/
def Obligations.MicroOperationsDriveTheLines : Prop :=
  ∀ s : State,
    (∃ t, exec .tStart s = .next t ∧ t.linesAre false false ∧ SameButLines s t ∧ t.levelTrace =
      s.levelTrace ++ traceOf s.lines ⟨s.clockLine, false⟩ ++ traceOf ⟨s.clockLine, false⟩ ⟨false, false⟩) ∧
    (∃ t, exec .tAck s = .next t ∧ t.linesAre false true ∧ SameButLines s t ∧ t.levelTrace =
      s.levelTrace ++ traceOf s.lines ⟨false, s.dataLine⟩ ++ traceOf ⟨false, s.dataLine⟩ ⟨false, true⟩) ∧
    (∃ t, exec .tTail s = .next t ∧ t.linesAre false false ∧ SameButLines s t ∧ t.levelTrace =
      s.levelTrace ++ traceOf s.lines ⟨false, s.dataLine⟩ ++ traceOf ⟨false, s.dataLine⟩ ⟨false, false⟩) ∧
    (∀ (b : BitVec 3) (B : Byte), currentByte s = some B →
      ∃ t, exec (.tBit b) s = .next t ∧ t.linesAre false (B.getLsbD b.toNat) ∧ SameButLines s t ∧ t.levelTrace =
        s.levelTrace ++ traceOf s.lines ⟨false, s.dataLine⟩ ++
          traceOf ⟨false, s.dataLine⟩ ⟨false, B.getLsbD b.toNat⟩)

/-- Spec 41_tick_sequencer.md section 2 (R101): the byte each state selects. -/
def Obligations.CurrentByteIsSelectedByTheState : Prop :=
  ∀ s : State,
    (s.state = .sendingDataCmd → currentByte s = some s.commandBytes[0]) ∧
    (s.state = .sendingAddressCmd → currentByte s = some s.commandBytes[1]) ∧
    (s.state = .sendingDisplayCtrlCmd → currentByte s = some s.commandBytes[2]) ∧
    (s.state = .sendingPayloadBytes → currentByte s = some s.payloadBytes[s.payloadCursor]) ∧
    (s.state = .ready → currentByte s = none)

/-- Spec 41_tick_sequencer.md (R102, order D6) and 42_window_boundary.md (R121): from the idle bus the start condition
passes (1,0) and (0,0); from low lines the stop condition passes (1,0) and (1,1). -/
def Obligations.StartAndStopConditionsOnTheTrace : Prop :=
  ∀ s : State,
    (s.linesAre true true →
      exec .tStart s = .next { s with
        clockLine := false, dataLine := false, levelTrace := s.levelTrace ++ [⟨true, false⟩, ⟨false, false⟩] }) ∧
    (s.linesAre false false → ∀ st m,
      exec (.wStop st m) s = .next { s with
        clockLine := true, dataLine := true, levelTrace := s.levelTrace ++ [⟨true, false⟩, ⟨true, true⟩] })

/-- Spec 41_tick_sequencer.md section 2 (R107): after ticks 0..17 the counter advances by one and nothing else changes. -/
def Obligations.WrapAdvancesTheCounterBelowEighteen : Prop :=
  ∀ (t : BitVec 5) (h : t.toNat < 18) (s : State),
    exec (.tWrap t) s = .next { s with tick := ⟨t.toNat + 1, Nat.succ_lt_succ h⟩ }

/-! ### The window boundary -/

/-- R121: the stop condition leaves both lines high and writes nothing but the two latches. -/
def Obligations.StopConditionLeavesTheBusIdle : Prop :=
  ∀ (st : EngineState) (m : Method) (s : State),
    ∃ t, exec (.wStop st m) s = .next t ∧ t.linesAre true true ∧ t.stopPending = s.stopPending ∧ SameButLines s t ∧
      t.levelTrace =
        s.levelTrace ++ traceOf s.lines ⟨true, s.dataLine⟩ ++ traceOf ⟨true, s.dataLine⟩ ⟨true, true⟩

/-- R122: the row of the data command, for any method: its selector at every cursor, and its effect. -/
def Obligations.DataWindowIsFollowedByTheAddressWindow : Prop :=
  ∀ m : Method,
    (∀ c : Fin 6, decode ⟨.bound6 (.row c), 6, boundSelector .sendingDataCmd m true⟩ = some (.wDataToAddr m)) ∧
    ∀ s : State, exec (.wDataToAddr m) s = .next { s with
      state := .sendingAddressCmd, startPending := true, stopPending := false }

/-- R123: the row of the address command, for any method: its selector at every cursor, and its effect. -/
def Obligations.AddressWindowIsFollowedByThePayload : Prop :=
  ∀ m : Method,
    (∀ c : Fin 6, decode ⟨.bound6 (.row c), 6, boundSelector .sendingAddressCmd m false⟩ = some (.wAddrToPayload m)) ∧
    ∀ s : State, exec (.wAddrToPayload m) s = .next { s with
      state := .sendingPayloadBytes
      startPending := false
      stopPending := if s.transferMethod = .singleByteFixedAddress then true else false }

/-- R125 and R126: the six-byte continuation for the cursors 0..3 and for 4: the selectors, and the effects. -/
def Obligations.SixByteRowsAdvanceTheCursor : Prop :=
  (∀ c : Fin 6, c.val < 4 →
    decode ⟨.bound6 (.row c), 6, boundSelector .sendingPayloadBytes .sixByteAutoAddress false⟩ = some .wSixNext) ∧
  decode ⟨.bound6 (.row 4), 6, boundSelector .sendingPayloadBytes .sixByteAutoAddress false⟩ = some .wSixLast ∧
  ∀ s : State,
    (∀ c : Fin 6, c.val < 4 → s.payloadCursor = c → ∀ h : c.val + 1 < 6,
      exec .wSixNext s = .next { s with payloadCursor := ⟨c.val + 1, h⟩ }) ∧
    (s.payloadCursor = 4 → exec .wSixLast s = .next { s with payloadCursor := 5, stopPending := true })

/-- Spec 42_window_boundary.md sections 2 and 3 (R124, R127, R128, R129): the terminating rows stop the timer and return
to `Ready`; that everything else keeps its value is decision D20. -/
def Obligations.TerminatingRowsStopTheTimer : Prop :=
  ∀ s : State,
    exec .wSingleDone s = .next { s with tickEnable := false, state := .ready } ∧
    exec .wSixDone s = .next { s with tickEnable := false, state := .ready } ∧
    exec .wCtrlDone s = .next { s with tickEnable := false, state := .ready }

/-- Spec 42_window_boundary.md section 1 (R120) and 30_encoding.md section 3 (R67): the counter wraps after tick 18, then
comes the stop condition if `stop_pending`, then the row the six-bit selector decodes to. -/
def Obligations.WrapRunsTheRowOfTheSelector : Prop :=
  ∀ s : State, ∃ row : Instr,
    decode ⟨.bound6 (.row s.payloadCursor), 6, boundSelector s.state s.transferMethod s.stopPending⟩ = some row ∧
    (s.stopPending = false → exec (.tWrap 18) s = exec row { s with tick := 0 }) ∧
    (s.stopPending = true → ∃ u, exec (.wStop s.state s.transferMethod) { s with tick := 0 } = .next u ∧
      exec (.tWrap 18) s = exec row u)

/-- Spec 42_window_boundary.md section 3 (R130) and 60_exceptions.md (R163): exactly the combinations without a row are
`SEQ_FAULT`, which records the combination. That they fault is decision D17. -/
def Obligations.CombinationsWithoutARowFault : Prop :=
  ∀ s : State,
    (¬ s.BoundaryHasRow →
      exec (.tWrap 18) s = .fault (.seqFault s.state s.transferMethod s.stopPending s.payloadCursor)) ∧
    (s.BoundaryHasRow → ∃ t, exec (.tWrap 18) s = .next t) ∧
    (∀ st m stop, exec (.seqFault st m stop) s = .fault (.seqFault st m stop s.payloadCursor))

/-! ### The TICK step and the schedule -/

/-- Spec 41_tick_sequencer.md section 1 (R100): a TICK step is `T_START` at tick 0 if `start_pending`, then the
micro-operation the counter decodes to, then `T_WRAP`, each run by exec. -/
def Obligations.TickStepRunsItsMicroOperations : Prop :=
  ∀ s : State, tickRuns s = true → s.state ≠ .ready →
    ∃ op : Instr, decode ⟨.tick5 .cell, 5, s.tick.val⟩ = some op ∧
      step s =
        andThen (if s.tick = 0 ∧ s.startPending = true then exec .tStart s else .next s) fun u =>
          andThen (exec op u) fun v => exec (.tWrap (BitVec.ofNat 5 s.tick.val)) v

/-- The step is exec of the decoded instruction (00_scope.md R6, 41_tick_sequencer.md R101; log entry 8): the byte TICK
stands at, read as the byte of a window in this state. -/
def Obligations.StepRunsTheFetchedByte : Prop :=
  ∀ (s : State) (B : Byte) (i : Instr), tickRuns s = true → currentByte s = some B →
    decode ⟨.wire8 s.state, 8, B.toNat⟩ = some i → step s = exec i s

/-- The step is exec of HOST's next call, taken off the list of calls still to make (R80; log entry 10). -/
def Obligations.StepCarriesOutTheNextCall : Prop :=
  ∀ (s : State) (c : HostCall) (rest : List HostCall), s.state = .ready → s.tickEnable = false →
    s.hostCalls = c :: rest → c.call.isRequest = true →
    step s = exec c.call { s with hostCalls := rest }

/-- Spec 41_tick_sequencer.md sections 2 and 3 (R100 to R109), 30_encoding.md section 2: every wire byte completes on the
ticks 0..17. It leaves the levels of its half cell, advances the counter, and touches nothing else. That exec of a wire
byte is one TICK step is the model's inference, log entry 8. -/
def Obligations.WireByteShiftsOneHalfCell : Prop :=
  ∀ (i : Instr) (B : Byte) (s : State), wireByte i = some B → s.tickEnable = true → s.state ≠ .ready →
    ∀ h : s.tick.val < 18,
      ∃ t, exec i s = .next t ∧
        (s.tick.val % 2 = 1 → t.linesAre true s.dataLine) ∧
        (s.tick.val % 2 = 0 → s.tick.val < 16 → t.linesAre false (B.getLsbD (s.tick.val / 2))) ∧
        (s.tick.val = 16 → t.linesAre false true) ∧
        s.levelTrace <+: t.levelTrace ∧
        SameButLines { s with tick := ⟨s.tick.val + 1, Nat.succ_lt_succ h⟩ } t

/-- Spec 41_tick_sequencer.md (R106, R107, R109) and 42_window_boundary.md (R120): on tick 18 every wire byte whose
boundary has a row completes its window: the lines end high if a stop was asked for and low if not (D8), and the rest is
the row's effect. That exec of a wire byte is one TICK step is the model's inference, log entry 8. -/
def Obligations.WireByteEndsItsWindow : Prop :=
  ∀ (i : Instr) (B : Byte) (s : State), wireByte i = some B → s.tickEnable = true → s.state ≠ .ready → s.tick = 18 →
    s.BoundaryHasRow →
    ∃ t u, exec i s = .next t ∧ t.linesAre s.stopPending s.stopPending ∧
      exec (boundaryRow s.state s.transferMethod s.stopPending s.payloadCursor) { s with tick := 0 } = .next u ∧
      SameButLines u t

/-- Spec 60_exceptions.md section 7 (R176) and section 1 (R164): a starved transfer stalls, and a call that spins in the
tick's context or above hangs, in both cases for ever. -/
def Obligations.StarvedOrBlockedTransferNeverMoves : Prop :=
  ∀ (s : State) (n : Nat), s.state ≠ .ready → s.tickEnable = true → (s.tickStarved = true ∨ tickBlocked s = true) →
    core.run n s = .next s

/-- Spec 20_memory.md section 4 (R54) and 10_state.md (R11, R12, R19): TICK writes neither buffer nor method nor a
persisted field, returns no result and takes no call. -/
def Obligations.TickWritesNoBuffer : Prop :=
  ∀ s t : State, tickRuns s = true → step s = .next t →
    t.commandBytes = s.commandBytes ∧ t.payloadBytes = s.payloadBytes ∧ t.transferMethod = s.transferMethod ∧
    t.displayOn = s.displayOn ∧ t.brightness = s.brightness ∧ t.results = s.results ∧ t.hostCalls = s.hostCalls ∧
    t.tickStarved = s.tickStarved

/-- Spec 10_state.md sections 3 and 4 (R13, R15) and 42_window_boundary.md (R132): inside a window TICK changes neither
state, cursor, flags nor timer; the cursor advances only in `SendingPayloadBytes`, by one, with the six-byte method and
no stop. -/
def Obligations.SequencingChangesOnlyAtTheBoundary : Prop :=
  ∀ s t : State, tickRuns s = true → step s = .next t →
    (s.tick ≠ 18 → t.state = s.state ∧ t.payloadCursor = s.payloadCursor ∧ t.startPending = s.startPending ∧
      t.stopPending = s.stopPending ∧ t.tickEnable = s.tickEnable ∧ t.tick.val = s.tick.val + 1) ∧
    (s.tick = 18 → t.tick = 0) ∧
    (t.payloadCursor ≠ s.payloadCursor → s.state = .sendingPayloadBytes ∧ s.tick = 18 ∧
      s.transferMethod = .sixByteAutoAddress ∧ s.stopPending = false ∧ t.payloadCursor.val = s.payloadCursor.val + 1)

/-- Spec 20_memory.md section 4 (R50) and 42_window_boundary.md (R129): a step enters `Ready` only at the end of a window
with a stop, with the timer stopped and the bus idle. -/
def Obligations.ReadyIsEnteredWithTheTimerStopped : Prop :=
  ∀ s t : State, s.state ≠ .ready → step s = .next t → t.state = .ready →
    s.tick = 18 ∧ s.stopPending = true ∧ t.tickEnable = false ∧ t.tick = 0 ∧ t.linesAre true true

/-! ### Invariants -/

/-- Spec 10_state.md sections 8 and 9 (R29, R30): the invariant holds at reset, for every value left open. -/
def Obligations.ResetMeetsTheInvariant : Prop :=
  ∀ (on : Bool) (level : BitVec 3) (cmd : Vector Byte 3) (pay : Vector Byte 6),
    (State.resetWith on level cmd pay).Inv

/-- Spec 10_state.md section 8 (R29): every step, from every state that meets it, keeps the invariant. -/
def Obligations.EveryStepKeepsTheInvariant : Prop :=
  ∀ s t : State, s.Inv → step s = .next t → t.Inv

/-- Spec 10_state.md section 8, 42_window_boundary.md section 3 (R130) and 60_exceptions.md (R160, R163): from a state
that meets the invariant no `SEQ_FAULT` is reached and, on calls the spec covers, no step stops. -/
def Obligations.InvariantStatesNeverStop : Prop :=
  ∀ s : State, s.Inv →
    (∀ r, step s ≠ .fault r) ∧ (s.CallsCovered → ∃ t, step s = .next t ∧ t.CallsCovered)

/-! ### Windows and transfers -/

/-- Spec 41_tick_sequencer.md section 3 (R109): the level waveform of a window, on every tick 0..17, for every byte; the
nineteenth step is WireByteEndsItsWindow's. Tick 16 and the write orders are D7. -/
def Obligations.WindowWaveform : Prop :=
  ∀ (s : State) (B : Byte) (k : Nat) (h : k < 18), tickRuns s = true → s.tick = 0 → currentByte s = some B →
    ∃ t, core.run (k + 1) s = .next t ∧ t.lines = waveform B s.stopPending k ∧
      SameButLines { s with tick := ⟨k + 1, Nat.succ_lt_succ h⟩ } t

/-- Spec 20_memory.md section 2 (R43) and 41_tick_sequencer.md section 3 (R109): over the nineteen steps of a window the
wire carries the start condition if asked, the eight bits of the current byte least significant first, the released
acknowledge slot, and the stop condition if asked. The orders are D6, D7 and D8. -/
def Obligations.WindowCarriesItsByteOnTheWire : Prop :=
  ∀ (s : State) (B : Byte), tickRuns s = true → s.tick = 0 → currentByte s = some B → s.BoundaryHasRow →
    s.linesAre s.startPending s.startPending →
    ∃ t new, core.run 19 s = .next t ∧ t.tick = 0 ∧ t.linesAre s.stopPending s.stopPending ∧
      t.levelTrace = s.levelTrace ++ new ∧
      wireEvents s.lines new =
        (if s.startPending then [.start] else []) ++ byteEvents B ++ (if s.stopPending then [.bit false, .stop] else [])

/-- Spec 42_window_boundary.md section 4 (R131) and 70_reset_and_hazards.md section 4 (R210): a transfer returns to
`Ready` after exactly 19 times the number of its bytes TICK steps, the timer stopped in the last one, and not before. -/
def Obligations.TransferTakesNineteenTicksPerByte : Prop :=
  ∀ (i : Instr) (s t : State), i.isRequest = true → s.state = .ready → s.tick = 0 → s.Live →
    exec i s = .next t → t.state ≠ .ready →
    (∃ u, core.run (19 * transferBytes t.transferMethod) t = .next u ∧ u.state = .ready ∧ u.tickEnable = false ∧ u.tick = 0 ∧
      u.linesAre true true ∧ u.commandBytes = t.commandBytes ∧ u.payloadBytes = t.payloadBytes ∧
      u.hostCalls = t.hostCalls ∧ u.results = t.results) ∧
    (∀ k, k < 19 * transferBytes t.transferMethod → ∃ u, core.run k t = .next u ∧ u.state ≠ .ready ∧ u.tickEnable = true)

/-- Spec 40_requests.md sections 1 and 4 (R80, R88) and 95_test_vectors.md S5: a call issued while a transfer runs
stays the next one until the transfer's last tick, leaves the running transfer's buffers alone, and is the next step
then. -/
def Obligations.QueuedCallRunsWhenTheTransferEnds : Prop :=
  ∀ (i : Instr) (c : HostCall) (rest : List HostCall) (s t : State), i.isRequest = true → s.state = .ready →
    s.tick = 0 → s.Live → s.hostCalls = c :: rest → c.call.isRequest = true → exec i s = .next t → t.state ≠ .ready →
    ∃ u, core.run (19 * transferBytes t.transferMethod) t = .next u ∧ u.commandBytes = t.commandBytes ∧
      u.payloadBytes = t.payloadBytes ∧ u.results = t.results ∧ step u = exec c.call { u with hostCalls := rest } ∧
      ∀ k, k < 19 * transferBytes t.transferMethod → ∃ v, core.run k t = .next v ∧ v.hostCalls = c :: rest

/-- Spec 40_requests.md (R81), 42_window_boundary.md section 4 (R131) and 20_memory.md (R47): from the idle bus
`set_digit` arms, and in 57 steps puts the frames of its three bytes on the wire; a receiver that reads them gets those
bytes, and their intended effect writes v to the cell `PERM(d)`. -/
def Obligations.SetDigitOnTheWire : Prop :=
  ∀ (s : State) (d : Fin 6) (v : Byte), s.state = .ready → s.tick = 0 → s.linesAre true true → s.Live →
    ∃ t u new, exec (.setDigit (Int.ofNat d.val) v) s = .next t ∧ core.run 57 t = .next u ∧
      u.levelTrace = s.levelTrace ++ new ∧
      wireEvents ⟨true, true⟩ new = (singleFrames (perm d) v).flatMap frameEvents ∧
      readFrames [] [] (wireEvents ⟨true, true⟩ new) = [[0x44#8], [addressByteOf (perm d), v]] ∧
      ∀ auto, intendedWrites auto (readFrames [] [] (wireEvents ⟨true, true⟩ new)) = [((perm d).val, v)]

/-- Spec 40_requests.md (R82), 42_window_boundary.md section 4 (R131) and 20_memory.md (R47): the same of `ARM_ALL`, whose
bytes go out in address order over 152 steps. 0x40 is D12 and the start at address 0 D11. -/
def Obligations.ArmAllOnTheWire : Prop :=
  ∀ (s : State) (b : Vector Byte 6), s.state = .ready → s.tick = 0 → s.linesAre true true → s.Live →
    ∃ t u new, exec (.armAll b) s = .next t ∧ core.run 152 t = .next u ∧ u.levelTrace = s.levelTrace ++ new ∧
      wireEvents ⟨true, true⟩ new = (sixFrames #v[b[3], b[4], b[5], b[0], b[1], b[2]]).flatMap frameEvents ∧
      readFrames [] [] (wireEvents ⟨true, true⟩ new) = [[0x40#8], [0xC0#8, b[3], b[4], b[5], b[0], b[1], b[2]]] ∧
      ∀ auto, intendedWrites auto (readFrames [] [] (wireEvents ⟨true, true⟩ new)) =
        [(0, b[3]), (1, b[4]), (2, b[5]), (3, b[0]), (4, b[1]), (5, b[2])]

/-- Spec 40_requests.md (R83, R86), 42_window_boundary.md section 4 (R131): a display-control transfer is one frame of one
byte, sent in 19 steps, and writes no display memory (R47). The byte's layout is D13. -/
def Obligations.SetPowerOnTheWire : Prop :=
  ∀ (s : State) (on : Bool), s.state = .ready → s.tick = 0 → s.linesAre true true → s.Live →
    ∃ t u new, exec (.setPower on) s = .next t ∧ core.run 19 t = .next u ∧ u.levelTrace = s.levelTrace ++ new ∧
      wireEvents ⟨true, true⟩ new = (controlFrames on s.brightness).flatMap frameEvents ∧
      readFrames [] [] (wireEvents ⟨true, true⟩ new) = [[ctrlByte on s.brightness]] ∧
      ∀ auto, intendedWrites auto (readFrames [] [] (wireEvents ⟨true, true⟩ new)) = []

/-- Spec 40_requests.md section 3 (R85): `clear_all` twice gives the same transfer twice and leaves the same state,
output logs apart. -/
def Obligations.ClearAllTwiceIsIdempotent : Prop :=
  ∀ s : State, s.state = .ready → s.tick = 0 → s.linesAre true true → s.Live →
    ∃ t u v w new, exec .clearAll s = .next t ∧ core.run 152 t = .next u ∧
      exec .clearAll u = .next v ∧ core.run 152 v = .next w ∧
      u.levelTrace = s.levelTrace ++ new ∧ w.levelTrace = u.levelTrace ++ new ∧
      w = { u with levelTrace := w.levelTrace, results := u.results ++ [.ok] } ∧
      u.payloadBytes = #v[0#8, 0#8, 0#8, 0#8, 0#8, 0#8] ∧ u.state = .ready ∧ u.tickEnable = false
end

