-- ==== Sys2Proof/Laws/State.lean ====
section
/-! SUPPORT. One lemma per field per update of the state, each true by rfl, so that no proof unfolds a record update. -/

namespace Sys2Proof.Machine

variable (s : State)

/-! ### `State.setFlags` -/

@[simp] theorem setFlags_commandBytes (a b : Bool) : (s.setFlags a b).commandBytes = s.commandBytes := rfl
@[simp] theorem setFlags_payloadBytes (a b : Bool) : (s.setFlags a b).payloadBytes = s.payloadBytes := rfl
@[simp] theorem setFlags_tick (a b : Bool) : (s.setFlags a b).tick = s.tick := rfl
@[simp] theorem setFlags_payloadCursor (a b : Bool) : (s.setFlags a b).payloadCursor = s.payloadCursor := rfl
@[simp] theorem setFlags_state (a b : Bool) : (s.setFlags a b).state = s.state := rfl
@[simp] theorem setFlags_startPending (a b : Bool) : (s.setFlags a b).startPending = a := rfl
@[simp] theorem setFlags_stopPending (a b : Bool) : (s.setFlags a b).stopPending = b := rfl
@[simp] theorem setFlags_transferMethod (a b : Bool) : (s.setFlags a b).transferMethod = s.transferMethod := rfl
@[simp] theorem setFlags_displayOn (a b : Bool) : (s.setFlags a b).displayOn = s.displayOn := rfl
@[simp] theorem setFlags_brightness (a b : Bool) : (s.setFlags a b).brightness = s.brightness := rfl
@[simp] theorem setFlags_tickEnable (a b : Bool) : (s.setFlags a b).tickEnable = s.tickEnable := rfl
@[simp] theorem setFlags_clockLine (a b : Bool) : (s.setFlags a b).clockLine = s.clockLine := rfl
@[simp] theorem setFlags_dataLine (a b : Bool) : (s.setFlags a b).dataLine = s.dataLine := rfl
@[simp] theorem setFlags_levelTrace (a b : Bool) : (s.setFlags a b).levelTrace = s.levelTrace := rfl
@[simp] theorem setFlags_results (a b : Bool) : (s.setFlags a b).results = s.results := rfl
@[simp] theorem setFlags_hostCalls (a b : Bool) : (s.setFlags a b).hostCalls = s.hostCalls := rfl
@[simp] theorem setFlags_tickStarved (a b : Bool) : (s.setFlags a b).tickStarved = s.tickStarved := rfl

/-! ### `State.setCmd` -/

@[simp] theorem setCmd_commandBytes (i : Fin 3) (v : Byte) : (s.setCmd i v).commandBytes = s.commandBytes.set i v := rfl
@[simp] theorem setCmd_payloadBytes (i : Fin 3) (v : Byte) : (s.setCmd i v).payloadBytes = s.payloadBytes := rfl
@[simp] theorem setCmd_tick (i : Fin 3) (v : Byte) : (s.setCmd i v).tick = s.tick := rfl
@[simp] theorem setCmd_payloadCursor (i : Fin 3) (v : Byte) : (s.setCmd i v).payloadCursor = s.payloadCursor := rfl
@[simp] theorem setCmd_state (i : Fin 3) (v : Byte) : (s.setCmd i v).state = s.state := rfl
@[simp] theorem setCmd_startPending (i : Fin 3) (v : Byte) : (s.setCmd i v).startPending = s.startPending := rfl
@[simp] theorem setCmd_stopPending (i : Fin 3) (v : Byte) : (s.setCmd i v).stopPending = s.stopPending := rfl
@[simp] theorem setCmd_transferMethod (i : Fin 3) (v : Byte) : (s.setCmd i v).transferMethod = s.transferMethod := rfl
@[simp] theorem setCmd_displayOn (i : Fin 3) (v : Byte) : (s.setCmd i v).displayOn = s.displayOn := rfl
@[simp] theorem setCmd_brightness (i : Fin 3) (v : Byte) : (s.setCmd i v).brightness = s.brightness := rfl
@[simp] theorem setCmd_tickEnable (i : Fin 3) (v : Byte) : (s.setCmd i v).tickEnable = s.tickEnable := rfl
@[simp] theorem setCmd_clockLine (i : Fin 3) (v : Byte) : (s.setCmd i v).clockLine = s.clockLine := rfl
@[simp] theorem setCmd_dataLine (i : Fin 3) (v : Byte) : (s.setCmd i v).dataLine = s.dataLine := rfl
@[simp] theorem setCmd_levelTrace (i : Fin 3) (v : Byte) : (s.setCmd i v).levelTrace = s.levelTrace := rfl
@[simp] theorem setCmd_results (i : Fin 3) (v : Byte) : (s.setCmd i v).results = s.results := rfl
@[simp] theorem setCmd_hostCalls (i : Fin 3) (v : Byte) : (s.setCmd i v).hostCalls = s.hostCalls := rfl
@[simp] theorem setCmd_tickStarved (i : Fin 3) (v : Byte) : (s.setCmd i v).tickStarved = s.tickStarved := rfl

/-! ### `State.setPay` -/

@[simp] theorem setPay_commandBytes (a : Fin 6) (v : Byte) : (s.setPay a v).commandBytes = s.commandBytes := rfl
@[simp] theorem setPay_payloadBytes (a : Fin 6) (v : Byte) : (s.setPay a v).payloadBytes = s.payloadBytes.set a v := rfl
@[simp] theorem setPay_tick (a : Fin 6) (v : Byte) : (s.setPay a v).tick = s.tick := rfl
@[simp] theorem setPay_payloadCursor (a : Fin 6) (v : Byte) : (s.setPay a v).payloadCursor = s.payloadCursor := rfl
@[simp] theorem setPay_state (a : Fin 6) (v : Byte) : (s.setPay a v).state = s.state := rfl
@[simp] theorem setPay_startPending (a : Fin 6) (v : Byte) : (s.setPay a v).startPending = s.startPending := rfl
@[simp] theorem setPay_stopPending (a : Fin 6) (v : Byte) : (s.setPay a v).stopPending = s.stopPending := rfl
@[simp] theorem setPay_transferMethod (a : Fin 6) (v : Byte) : (s.setPay a v).transferMethod = s.transferMethod := rfl
@[simp] theorem setPay_displayOn (a : Fin 6) (v : Byte) : (s.setPay a v).displayOn = s.displayOn := rfl
@[simp] theorem setPay_brightness (a : Fin 6) (v : Byte) : (s.setPay a v).brightness = s.brightness := rfl
@[simp] theorem setPay_tickEnable (a : Fin 6) (v : Byte) : (s.setPay a v).tickEnable = s.tickEnable := rfl
@[simp] theorem setPay_clockLine (a : Fin 6) (v : Byte) : (s.setPay a v).clockLine = s.clockLine := rfl
@[simp] theorem setPay_dataLine (a : Fin 6) (v : Byte) : (s.setPay a v).dataLine = s.dataLine := rfl
@[simp] theorem setPay_levelTrace (a : Fin 6) (v : Byte) : (s.setPay a v).levelTrace = s.levelTrace := rfl
@[simp] theorem setPay_results (a : Fin 6) (v : Byte) : (s.setPay a v).results = s.results := rfl
@[simp] theorem setPay_hostCalls (a : Fin 6) (v : Byte) : (s.setPay a v).hostCalls = s.hostCalls := rfl
@[simp] theorem setPay_tickStarved (a : Fin 6) (v : Byte) : (s.setPay a v).tickStarved = s.tickStarved := rfl

/-! ### `State.setPayAll` -/

@[simp] theorem setPayAll_commandBytes (p : Vector Byte 6) : (s.setPayAll p).commandBytes = s.commandBytes := rfl
@[simp] theorem setPayAll_payloadBytes (p : Vector Byte 6) : (s.setPayAll p).payloadBytes = p := rfl
@[simp] theorem setPayAll_tick (p : Vector Byte 6) : (s.setPayAll p).tick = s.tick := rfl
@[simp] theorem setPayAll_payloadCursor (p : Vector Byte 6) : (s.setPayAll p).payloadCursor = s.payloadCursor := rfl
@[simp] theorem setPayAll_state (p : Vector Byte 6) : (s.setPayAll p).state = s.state := rfl
@[simp] theorem setPayAll_startPending (p : Vector Byte 6) : (s.setPayAll p).startPending = s.startPending := rfl
@[simp] theorem setPayAll_stopPending (p : Vector Byte 6) : (s.setPayAll p).stopPending = s.stopPending := rfl
@[simp] theorem setPayAll_transferMethod (p : Vector Byte 6) : (s.setPayAll p).transferMethod = s.transferMethod := rfl
@[simp] theorem setPayAll_displayOn (p : Vector Byte 6) : (s.setPayAll p).displayOn = s.displayOn := rfl
@[simp] theorem setPayAll_brightness (p : Vector Byte 6) : (s.setPayAll p).brightness = s.brightness := rfl
@[simp] theorem setPayAll_tickEnable (p : Vector Byte 6) : (s.setPayAll p).tickEnable = s.tickEnable := rfl
@[simp] theorem setPayAll_clockLine (p : Vector Byte 6) : (s.setPayAll p).clockLine = s.clockLine := rfl
@[simp] theorem setPayAll_dataLine (p : Vector Byte 6) : (s.setPayAll p).dataLine = s.dataLine := rfl
@[simp] theorem setPayAll_levelTrace (p : Vector Byte 6) : (s.setPayAll p).levelTrace = s.levelTrace := rfl
@[simp] theorem setPayAll_results (p : Vector Byte 6) : (s.setPayAll p).results = s.results := rfl
@[simp] theorem setPayAll_hostCalls (p : Vector Byte 6) : (s.setPayAll p).hostCalls = s.hostCalls := rfl
@[simp] theorem setPayAll_tickStarved (p : Vector Byte 6) : (s.setPayAll p).tickStarved = s.tickStarved := rfl

/-! ### `State.setCursor` -/

@[simp] theorem setCursor_commandBytes (c : Fin 6) : (s.setCursor c).commandBytes = s.commandBytes := rfl
@[simp] theorem setCursor_payloadBytes (c : Fin 6) : (s.setCursor c).payloadBytes = s.payloadBytes := rfl
@[simp] theorem setCursor_tick (c : Fin 6) : (s.setCursor c).tick = s.tick := rfl
@[simp] theorem setCursor_payloadCursor (c : Fin 6) : (s.setCursor c).payloadCursor = c := rfl
@[simp] theorem setCursor_state (c : Fin 6) : (s.setCursor c).state = s.state := rfl
@[simp] theorem setCursor_startPending (c : Fin 6) : (s.setCursor c).startPending = s.startPending := rfl
@[simp] theorem setCursor_stopPending (c : Fin 6) : (s.setCursor c).stopPending = s.stopPending := rfl
@[simp] theorem setCursor_transferMethod (c : Fin 6) : (s.setCursor c).transferMethod = s.transferMethod := rfl
@[simp] theorem setCursor_displayOn (c : Fin 6) : (s.setCursor c).displayOn = s.displayOn := rfl
@[simp] theorem setCursor_brightness (c : Fin 6) : (s.setCursor c).brightness = s.brightness := rfl
@[simp] theorem setCursor_tickEnable (c : Fin 6) : (s.setCursor c).tickEnable = s.tickEnable := rfl
@[simp] theorem setCursor_clockLine (c : Fin 6) : (s.setCursor c).clockLine = s.clockLine := rfl
@[simp] theorem setCursor_dataLine (c : Fin 6) : (s.setCursor c).dataLine = s.dataLine := rfl
@[simp] theorem setCursor_levelTrace (c : Fin 6) : (s.setCursor c).levelTrace = s.levelTrace := rfl
@[simp] theorem setCursor_results (c : Fin 6) : (s.setCursor c).results = s.results := rfl
@[simp] theorem setCursor_hostCalls (c : Fin 6) : (s.setCursor c).hostCalls = s.hostCalls := rfl
@[simp] theorem setCursor_tickStarved (c : Fin 6) : (s.setCursor c).tickStarved = s.tickStarved := rfl

/-! ### `State.setTick` -/

@[simp] theorem setTick_commandBytes (t : Fin 19) : (s.setTick t).commandBytes = s.commandBytes := rfl
@[simp] theorem setTick_payloadBytes (t : Fin 19) : (s.setTick t).payloadBytes = s.payloadBytes := rfl
@[simp] theorem setTick_tick (t : Fin 19) : (s.setTick t).tick = t := rfl
@[simp] theorem setTick_payloadCursor (t : Fin 19) : (s.setTick t).payloadCursor = s.payloadCursor := rfl
@[simp] theorem setTick_state (t : Fin 19) : (s.setTick t).state = s.state := rfl
@[simp] theorem setTick_startPending (t : Fin 19) : (s.setTick t).startPending = s.startPending := rfl
@[simp] theorem setTick_stopPending (t : Fin 19) : (s.setTick t).stopPending = s.stopPending := rfl
@[simp] theorem setTick_transferMethod (t : Fin 19) : (s.setTick t).transferMethod = s.transferMethod := rfl
@[simp] theorem setTick_displayOn (t : Fin 19) : (s.setTick t).displayOn = s.displayOn := rfl
@[simp] theorem setTick_brightness (t : Fin 19) : (s.setTick t).brightness = s.brightness := rfl
@[simp] theorem setTick_tickEnable (t : Fin 19) : (s.setTick t).tickEnable = s.tickEnable := rfl
@[simp] theorem setTick_clockLine (t : Fin 19) : (s.setTick t).clockLine = s.clockLine := rfl
@[simp] theorem setTick_dataLine (t : Fin 19) : (s.setTick t).dataLine = s.dataLine := rfl
@[simp] theorem setTick_levelTrace (t : Fin 19) : (s.setTick t).levelTrace = s.levelTrace := rfl
@[simp] theorem setTick_results (t : Fin 19) : (s.setTick t).results = s.results := rfl
@[simp] theorem setTick_hostCalls (t : Fin 19) : (s.setTick t).hostCalls = s.hostCalls := rfl
@[simp] theorem setTick_tickStarved (t : Fin 19) : (s.setTick t).tickStarved = s.tickStarved := rfl

/-! ### `State.setMethod` -/

@[simp] theorem setMethod_commandBytes (m : Method) : (s.setMethod m).commandBytes = s.commandBytes := rfl
@[simp] theorem setMethod_payloadBytes (m : Method) : (s.setMethod m).payloadBytes = s.payloadBytes := rfl
@[simp] theorem setMethod_tick (m : Method) : (s.setMethod m).tick = s.tick := rfl
@[simp] theorem setMethod_payloadCursor (m : Method) : (s.setMethod m).payloadCursor = s.payloadCursor := rfl
@[simp] theorem setMethod_state (m : Method) : (s.setMethod m).state = s.state := rfl
@[simp] theorem setMethod_startPending (m : Method) : (s.setMethod m).startPending = s.startPending := rfl
@[simp] theorem setMethod_stopPending (m : Method) : (s.setMethod m).stopPending = s.stopPending := rfl
@[simp] theorem setMethod_transferMethod (m : Method) : (s.setMethod m).transferMethod = m := rfl
@[simp] theorem setMethod_displayOn (m : Method) : (s.setMethod m).displayOn = s.displayOn := rfl
@[simp] theorem setMethod_brightness (m : Method) : (s.setMethod m).brightness = s.brightness := rfl
@[simp] theorem setMethod_tickEnable (m : Method) : (s.setMethod m).tickEnable = s.tickEnable := rfl
@[simp] theorem setMethod_clockLine (m : Method) : (s.setMethod m).clockLine = s.clockLine := rfl
@[simp] theorem setMethod_dataLine (m : Method) : (s.setMethod m).dataLine = s.dataLine := rfl
@[simp] theorem setMethod_levelTrace (m : Method) : (s.setMethod m).levelTrace = s.levelTrace := rfl
@[simp] theorem setMethod_results (m : Method) : (s.setMethod m).results = s.results := rfl
@[simp] theorem setMethod_hostCalls (m : Method) : (s.setMethod m).hostCalls = s.hostCalls := rfl
@[simp] theorem setMethod_tickStarved (m : Method) : (s.setMethod m).tickStarved = s.tickStarved := rfl

/-! ### `State.setState` -/

@[simp] theorem setState_commandBytes (st : EngineState) : (s.setState st).commandBytes = s.commandBytes := rfl
@[simp] theorem setState_payloadBytes (st : EngineState) : (s.setState st).payloadBytes = s.payloadBytes := rfl
@[simp] theorem setState_tick (st : EngineState) : (s.setState st).tick = s.tick := rfl
@[simp] theorem setState_payloadCursor (st : EngineState) : (s.setState st).payloadCursor = s.payloadCursor := rfl
@[simp] theorem setState_state (st : EngineState) : (s.setState st).state = st := rfl
@[simp] theorem setState_startPending (st : EngineState) : (s.setState st).startPending = s.startPending := rfl
@[simp] theorem setState_stopPending (st : EngineState) : (s.setState st).stopPending = s.stopPending := rfl
@[simp] theorem setState_transferMethod (st : EngineState) : (s.setState st).transferMethod = s.transferMethod := rfl
@[simp] theorem setState_displayOn (st : EngineState) : (s.setState st).displayOn = s.displayOn := rfl
@[simp] theorem setState_brightness (st : EngineState) : (s.setState st).brightness = s.brightness := rfl
@[simp] theorem setState_tickEnable (st : EngineState) : (s.setState st).tickEnable = s.tickEnable := rfl
@[simp] theorem setState_clockLine (st : EngineState) : (s.setState st).clockLine = s.clockLine := rfl
@[simp] theorem setState_dataLine (st : EngineState) : (s.setState st).dataLine = s.dataLine := rfl
@[simp] theorem setState_levelTrace (st : EngineState) : (s.setState st).levelTrace = s.levelTrace := rfl
@[simp] theorem setState_results (st : EngineState) : (s.setState st).results = s.results := rfl
@[simp] theorem setState_hostCalls (st : EngineState) : (s.setState st).hostCalls = s.hostCalls := rfl
@[simp] theorem setState_tickStarved (st : EngineState) : (s.setState st).tickStarved = s.tickStarved := rfl

/-! ### `State.setDisplayOn` -/

@[simp] theorem setDisplayOn_commandBytes (on : Bool) : (s.setDisplayOn on).commandBytes = s.commandBytes := rfl
@[simp] theorem setDisplayOn_payloadBytes (on : Bool) : (s.setDisplayOn on).payloadBytes = s.payloadBytes := rfl
@[simp] theorem setDisplayOn_tick (on : Bool) : (s.setDisplayOn on).tick = s.tick := rfl
@[simp] theorem setDisplayOn_payloadCursor (on : Bool) : (s.setDisplayOn on).payloadCursor = s.payloadCursor := rfl
@[simp] theorem setDisplayOn_state (on : Bool) : (s.setDisplayOn on).state = s.state := rfl
@[simp] theorem setDisplayOn_startPending (on : Bool) : (s.setDisplayOn on).startPending = s.startPending := rfl
@[simp] theorem setDisplayOn_stopPending (on : Bool) : (s.setDisplayOn on).stopPending = s.stopPending := rfl
@[simp] theorem setDisplayOn_transferMethod (on : Bool) : (s.setDisplayOn on).transferMethod = s.transferMethod := rfl
@[simp] theorem setDisplayOn_displayOn (on : Bool) : (s.setDisplayOn on).displayOn = on := rfl
@[simp] theorem setDisplayOn_brightness (on : Bool) : (s.setDisplayOn on).brightness = s.brightness := rfl
@[simp] theorem setDisplayOn_tickEnable (on : Bool) : (s.setDisplayOn on).tickEnable = s.tickEnable := rfl
@[simp] theorem setDisplayOn_clockLine (on : Bool) : (s.setDisplayOn on).clockLine = s.clockLine := rfl
@[simp] theorem setDisplayOn_dataLine (on : Bool) : (s.setDisplayOn on).dataLine = s.dataLine := rfl
@[simp] theorem setDisplayOn_levelTrace (on : Bool) : (s.setDisplayOn on).levelTrace = s.levelTrace := rfl
@[simp] theorem setDisplayOn_results (on : Bool) : (s.setDisplayOn on).results = s.results := rfl
@[simp] theorem setDisplayOn_hostCalls (on : Bool) : (s.setDisplayOn on).hostCalls = s.hostCalls := rfl
@[simp] theorem setDisplayOn_tickStarved (on : Bool) : (s.setDisplayOn on).tickStarved = s.tickStarved := rfl

/-! ### `State.setBrightness` -/

@[simp] theorem setBrightness_commandBytes (l : BitVec 3) : (s.setBrightness l).commandBytes = s.commandBytes := rfl
@[simp] theorem setBrightness_payloadBytes (l : BitVec 3) : (s.setBrightness l).payloadBytes = s.payloadBytes := rfl
@[simp] theorem setBrightness_tick (l : BitVec 3) : (s.setBrightness l).tick = s.tick := rfl
@[simp] theorem setBrightness_payloadCursor (l : BitVec 3) : (s.setBrightness l).payloadCursor = s.payloadCursor := rfl
@[simp] theorem setBrightness_state (l : BitVec 3) : (s.setBrightness l).state = s.state := rfl
@[simp] theorem setBrightness_startPending (l : BitVec 3) : (s.setBrightness l).startPending = s.startPending := rfl
@[simp] theorem setBrightness_stopPending (l : BitVec 3) : (s.setBrightness l).stopPending = s.stopPending := rfl
@[simp] theorem setBrightness_transferMethod (l : BitVec 3) : (s.setBrightness l).transferMethod = s.transferMethod := rfl
@[simp] theorem setBrightness_displayOn (l : BitVec 3) : (s.setBrightness l).displayOn = s.displayOn := rfl
@[simp] theorem setBrightness_brightness (l : BitVec 3) : (s.setBrightness l).brightness = l := rfl
@[simp] theorem setBrightness_tickEnable (l : BitVec 3) : (s.setBrightness l).tickEnable = s.tickEnable := rfl
@[simp] theorem setBrightness_clockLine (l : BitVec 3) : (s.setBrightness l).clockLine = s.clockLine := rfl
@[simp] theorem setBrightness_dataLine (l : BitVec 3) : (s.setBrightness l).dataLine = s.dataLine := rfl
@[simp] theorem setBrightness_levelTrace (l : BitVec 3) : (s.setBrightness l).levelTrace = s.levelTrace := rfl
@[simp] theorem setBrightness_results (l : BitVec 3) : (s.setBrightness l).results = s.results := rfl
@[simp] theorem setBrightness_hostCalls (l : BitVec 3) : (s.setBrightness l).hostCalls = s.hostCalls := rfl
@[simp] theorem setBrightness_tickStarved (l : BitVec 3) : (s.setBrightness l).tickStarved = s.tickStarved := rfl

/-! ### `State.timerStart` -/

@[simp] theorem timerStart_commandBytes : (s.timerStart).commandBytes = s.commandBytes := rfl
@[simp] theorem timerStart_payloadBytes : (s.timerStart).payloadBytes = s.payloadBytes := rfl
@[simp] theorem timerStart_tick : (s.timerStart).tick = s.tick := rfl
@[simp] theorem timerStart_payloadCursor : (s.timerStart).payloadCursor = s.payloadCursor := rfl
@[simp] theorem timerStart_state : (s.timerStart).state = s.state := rfl
@[simp] theorem timerStart_startPending : (s.timerStart).startPending = s.startPending := rfl
@[simp] theorem timerStart_stopPending : (s.timerStart).stopPending = s.stopPending := rfl
@[simp] theorem timerStart_transferMethod : (s.timerStart).transferMethod = s.transferMethod := rfl
@[simp] theorem timerStart_displayOn : (s.timerStart).displayOn = s.displayOn := rfl
@[simp] theorem timerStart_brightness : (s.timerStart).brightness = s.brightness := rfl
@[simp] theorem timerStart_tickEnable : (s.timerStart).tickEnable = true := rfl
@[simp] theorem timerStart_clockLine : (s.timerStart).clockLine = s.clockLine := rfl
@[simp] theorem timerStart_dataLine : (s.timerStart).dataLine = s.dataLine := rfl
@[simp] theorem timerStart_levelTrace : (s.timerStart).levelTrace = s.levelTrace := rfl
@[simp] theorem timerStart_results : (s.timerStart).results = s.results := rfl
@[simp] theorem timerStart_hostCalls : (s.timerStart).hostCalls = s.hostCalls := rfl
@[simp] theorem timerStart_tickStarved : (s.timerStart).tickStarved = s.tickStarved := rfl

/-! ### `State.timerStop` -/

@[simp] theorem timerStop_commandBytes : (s.timerStop).commandBytes = s.commandBytes := rfl
@[simp] theorem timerStop_payloadBytes : (s.timerStop).payloadBytes = s.payloadBytes := rfl
@[simp] theorem timerStop_tick : (s.timerStop).tick = s.tick := rfl
@[simp] theorem timerStop_payloadCursor : (s.timerStop).payloadCursor = s.payloadCursor := rfl
@[simp] theorem timerStop_state : (s.timerStop).state = s.state := rfl
@[simp] theorem timerStop_startPending : (s.timerStop).startPending = s.startPending := rfl
@[simp] theorem timerStop_stopPending : (s.timerStop).stopPending = s.stopPending := rfl
@[simp] theorem timerStop_transferMethod : (s.timerStop).transferMethod = s.transferMethod := rfl
@[simp] theorem timerStop_displayOn : (s.timerStop).displayOn = s.displayOn := rfl
@[simp] theorem timerStop_brightness : (s.timerStop).brightness = s.brightness := rfl
@[simp] theorem timerStop_tickEnable : (s.timerStop).tickEnable = false := rfl
@[simp] theorem timerStop_clockLine : (s.timerStop).clockLine = s.clockLine := rfl
@[simp] theorem timerStop_dataLine : (s.timerStop).dataLine = s.dataLine := rfl
@[simp] theorem timerStop_levelTrace : (s.timerStop).levelTrace = s.levelTrace := rfl
@[simp] theorem timerStop_results : (s.timerStop).results = s.results := rfl
@[simp] theorem timerStop_hostCalls : (s.timerStop).hostCalls = s.hostCalls := rfl
@[simp] theorem timerStop_tickStarved : (s.timerStop).tickStarved = s.tickStarved := rfl

/-! ### `State.answer` -/

@[simp] theorem answer_commandBytes (r : Result) : (s.answer r).commandBytes = s.commandBytes := rfl
@[simp] theorem answer_payloadBytes (r : Result) : (s.answer r).payloadBytes = s.payloadBytes := rfl
@[simp] theorem answer_tick (r : Result) : (s.answer r).tick = s.tick := rfl
@[simp] theorem answer_payloadCursor (r : Result) : (s.answer r).payloadCursor = s.payloadCursor := rfl
@[simp] theorem answer_state (r : Result) : (s.answer r).state = s.state := rfl
@[simp] theorem answer_startPending (r : Result) : (s.answer r).startPending = s.startPending := rfl
@[simp] theorem answer_stopPending (r : Result) : (s.answer r).stopPending = s.stopPending := rfl
@[simp] theorem answer_transferMethod (r : Result) : (s.answer r).transferMethod = s.transferMethod := rfl
@[simp] theorem answer_displayOn (r : Result) : (s.answer r).displayOn = s.displayOn := rfl
@[simp] theorem answer_brightness (r : Result) : (s.answer r).brightness = s.brightness := rfl
@[simp] theorem answer_tickEnable (r : Result) : (s.answer r).tickEnable = s.tickEnable := rfl
@[simp] theorem answer_clockLine (r : Result) : (s.answer r).clockLine = s.clockLine := rfl
@[simp] theorem answer_dataLine (r : Result) : (s.answer r).dataLine = s.dataLine := rfl
@[simp] theorem answer_levelTrace (r : Result) : (s.answer r).levelTrace = s.levelTrace := rfl
@[simp] theorem answer_results (r : Result) : (s.answer r).results = s.results ++ [r] := rfl
@[simp] theorem answer_hostCalls (r : Result) : (s.answer r).hostCalls = s.hostCalls := rfl
@[simp] theorem answer_tickStarved (r : Result) : (s.answer r).tickStarved = s.tickStarved := rfl

/-! ### `State.takeCall` -/

@[simp] theorem takeCall_commandBytes : (s.takeCall).commandBytes = s.commandBytes := rfl
@[simp] theorem takeCall_payloadBytes : (s.takeCall).payloadBytes = s.payloadBytes := rfl
@[simp] theorem takeCall_tick : (s.takeCall).tick = s.tick := rfl
@[simp] theorem takeCall_payloadCursor : (s.takeCall).payloadCursor = s.payloadCursor := rfl
@[simp] theorem takeCall_state : (s.takeCall).state = s.state := rfl
@[simp] theorem takeCall_startPending : (s.takeCall).startPending = s.startPending := rfl
@[simp] theorem takeCall_stopPending : (s.takeCall).stopPending = s.stopPending := rfl
@[simp] theorem takeCall_transferMethod : (s.takeCall).transferMethod = s.transferMethod := rfl
@[simp] theorem takeCall_displayOn : (s.takeCall).displayOn = s.displayOn := rfl
@[simp] theorem takeCall_brightness : (s.takeCall).brightness = s.brightness := rfl
@[simp] theorem takeCall_tickEnable : (s.takeCall).tickEnable = s.tickEnable := rfl
@[simp] theorem takeCall_clockLine : (s.takeCall).clockLine = s.clockLine := rfl
@[simp] theorem takeCall_dataLine : (s.takeCall).dataLine = s.dataLine := rfl
@[simp] theorem takeCall_levelTrace : (s.takeCall).levelTrace = s.levelTrace := rfl
@[simp] theorem takeCall_results : (s.takeCall).results = s.results := rfl
@[simp] theorem takeCall_hostCalls : (s.takeCall).hostCalls = s.hostCalls.tail := rfl
@[simp] theorem takeCall_tickStarved : (s.takeCall).tickStarved = s.tickStarved := rfl

/-! ### `State.pinWrite` -/

@[simp] theorem pinWrite_commandBytes (p : Pin) (l : Level) : (s.pinWrite p l).commandBytes = s.commandBytes := rfl
@[simp] theorem pinWrite_payloadBytes (p : Pin) (l : Level) : (s.pinWrite p l).payloadBytes = s.payloadBytes := rfl
@[simp] theorem pinWrite_tick (p : Pin) (l : Level) : (s.pinWrite p l).tick = s.tick := rfl
@[simp] theorem pinWrite_payloadCursor (p : Pin) (l : Level) : (s.pinWrite p l).payloadCursor = s.payloadCursor := rfl
@[simp] theorem pinWrite_state (p : Pin) (l : Level) : (s.pinWrite p l).state = s.state := rfl
@[simp] theorem pinWrite_startPending (p : Pin) (l : Level) : (s.pinWrite p l).startPending = s.startPending := rfl
@[simp] theorem pinWrite_stopPending (p : Pin) (l : Level) : (s.pinWrite p l).stopPending = s.stopPending := rfl
@[simp] theorem pinWrite_transferMethod (p : Pin) (l : Level) : (s.pinWrite p l).transferMethod = s.transferMethod := rfl
@[simp] theorem pinWrite_displayOn (p : Pin) (l : Level) : (s.pinWrite p l).displayOn = s.displayOn := rfl
@[simp] theorem pinWrite_brightness (p : Pin) (l : Level) : (s.pinWrite p l).brightness = s.brightness := rfl
@[simp] theorem pinWrite_tickEnable (p : Pin) (l : Level) : (s.pinWrite p l).tickEnable = s.tickEnable := rfl
@[simp] theorem pinWrite_clockLine (p : Pin) (l : Level) : (s.pinWrite p l).clockLine = (s.lines.write p l).clk := rfl
@[simp] theorem pinWrite_dataLine (p : Pin) (l : Level) : (s.pinWrite p l).dataLine = (s.lines.write p l).dio := rfl
@[simp] theorem pinWrite_levelTrace (p : Pin) (l : Level) : (s.pinWrite p l).levelTrace = s.levelTrace ++ traceOf s.lines (s.lines.write p l) := rfl
@[simp] theorem pinWrite_results (p : Pin) (l : Level) : (s.pinWrite p l).results = s.results := rfl
@[simp] theorem pinWrite_hostCalls (p : Pin) (l : Level) : (s.pinWrite p l).hostCalls = s.hostCalls := rfl
@[simp] theorem pinWrite_tickStarved (p : Pin) (l : Level) : (s.pinWrite p l).tickStarved = s.tickStarved := rfl

end Sys2Proof.Machine
end

