-- ==== Sys2Proof/Laws/Ops.lean ====
section
/-! SUPPORT. One lemma per shared operation, saying once what it can do, cited by proofs instead of unfolding it. -/

namespace Sys2Proof.Machine

/-! ### Outcomes -/

@[simp] theorem andThen_next (s : State) (f : State → StepResult) : andThen (.next s) f = f s := rfl
@[simp] theorem andThen_fault (r : Fault) (f : State → StepResult) : andThen (.fault r) f = .fault r := rfl
@[simp] theorem andThen_refused (r : Refusal) (f : State → StepResult) : andThen (.refused r) f = .refused r := rfl

/-- A sequence that reaches a next state went through one. -/
theorem andThen_eq_next {o : StepResult} {f : State → StepResult} {t : State} (h : andThen o f = .next t) :
    ∃ s, o = .next s ∧ f s = .next t := by
  cases o with
  | next s => exact ⟨s, rfl, h⟩
  | fault r => exact absurd h (by simp)
  | refused r => exact absurd h (by simp)

/-! ### Pins -/

@[simp] theorem LinePair.write_clk (p : LinePair) (l : Level) : p.write .clk l = ⟨l, p.dio⟩ := rfl
@[simp] theorem LinePair.write_dio (p : LinePair) (l : Level) : p.write .dio l = ⟨p.clk, l⟩ := rfl
@[simp] theorem State.lines_clk (s : State) : s.lines.clk = s.clockLine := rfl
@[simp] theorem State.lines_dio (s : State) : s.lines.dio = s.dataLine := rfl
@[simp] theorem pinWrite_lines (s : State) (p : Pin) (l : Level) : (s.pinWrite p l).lines = s.lines.write p l := by
  cases p <;> rfl
@[simp] theorem traceOf_self (p : LinePair) : traceOf p p = [] := by simp [traceOf]
@[simp] theorem setTick_lines (s : State) (t : Fin 19) : (s.setTick t).lines = s.lines := rfl

/-- A pin write changes the lines and the trace and nothing else. -/
theorem pinWrite_sameButLines (s : State) (p : Pin) (l : Level) : SameButLines s (s.pinWrite p l) := rfl

theorem SameButLines.refl (s : State) : SameButLines s s := rfl

theorem SameButLines.trans {s t u : State} (h : SameButLines s t) (k : SameButLines t u) : SameButLines s u := by
  unfold SameButLines at *
  rw [k, h]

/-- The two writes of every micro-operation and of the stop condition: final lines, trace, and nothing else. -/
theorem twoWrites_sameButLines (s : State) (p q : Pin) (l m : Level) :
    SameButLines s ((s.pinWrite p l).pinWrite q m) :=
  (pinWrite_sameButLines s p l).trans (pinWrite_sameButLines _ q m)

theorem startCondition_sameButLines (s : State) : SameButLines s (startCondition s) := twoWrites_sameButLines ..
theorem dataCell_sameButLines (B : Byte) (i : Nat) (s : State) : SameButLines s (dataCell B i s) :=
  twoWrites_sameButLines ..
theorem clockHigh_sameButLines (s : State) : SameButLines s (clockHigh s) := pinWrite_sameButLines ..
theorem ackCell_sameButLines (s : State) : SameButLines s (ackCell s) := twoWrites_sameButLines ..
theorem tailCell_sameButLines (s : State) : SameButLines s (tailCell s) := twoWrites_sameButLines ..
theorem stopCondition_sameButLines (s : State) : SameButLines s (stopCondition s) := twoWrites_sameButLines ..

@[simp] theorem startCondition_lines (s : State) : (startCondition s).lines = ⟨false, false⟩ := rfl
@[simp] theorem dataCell_lines (B : Byte) (i : Nat) (s : State) : (dataCell B i s).lines = ⟨false, bitOf B i⟩ := rfl
@[simp] theorem clockHigh_lines (s : State) : (clockHigh s).lines = ⟨true, s.dataLine⟩ := rfl
@[simp] theorem ackCell_lines (s : State) : (ackCell s).lines = ⟨false, true⟩ := rfl
@[simp] theorem tailCell_lines (s : State) : (tailCell s).lines = ⟨false, false⟩ := rfl
@[simp] theorem stopCondition_lines (s : State) : (stopCondition s).lines = ⟨true, true⟩ := rfl

/-- A half bit-cell changes the lines and the trace and nothing else. -/
theorem halfCell_sameButLines (B : Byte) (t : Fin 19) (s : State) : SameButLines s (halfCell B t s) := by
  unfold halfCell
  split
  · exact clockHigh_sameButLines s
  · split
    · exact dataCell_sameButLines B _ s
    · split
      · exact ackCell_sameButLines s
      · exact tailCell_sameButLines s

theorem startPrefix_sameButLines (s : State) : SameButLines s (startPrefix s) := by
  unfold startPrefix
  split
  · exact startCondition_sameButLines s
  · exact SameButLines.refl s

/-! ### The boundary -/

/-- The cursor advances by one below 5 and is a fault at 5. -/
theorem advanceCursor_cases (s : State) :
    (∃ h : s.payloadCursor.val + 1 < 6, advanceCursor s = .next (s.setCursor ⟨s.payloadCursor.val + 1, h⟩)) ∨
    (s.payloadCursor = 5 ∧
      advanceCursor s = .fault (.seqFault s.state s.transferMethod s.stopPending s.payloadCursor)) := by
  unfold advanceCursor raiseSeqFault
  split
  · rename_i h
    exact .inl ⟨h, rfl⟩
  · exact .inr ⟨by omega, rfl⟩

/-- What a boundary leaves, when it leaves a next state: `tick`, the buffers, the method, the persisted fields, HOST's
side, and the lines it came to. -/
structure BoundaryFrame (s t : State) : Prop where
  commandBytes : t.commandBytes = s.commandBytes
  payloadBytes : t.payloadBytes = s.payloadBytes
  tick : t.tick = s.tick
  transferMethod : t.transferMethod = s.transferMethod
  displayOn : t.displayOn = s.displayOn
  brightness : t.brightness = s.brightness
  clockLine : t.clockLine = s.clockLine
  dataLine : t.dataLine = s.dataLine
  levelTrace : t.levelTrace = s.levelTrace
  results : t.results = s.results
  hostCalls : t.hostCalls = s.hostCalls
  tickStarved : t.tickStarved = s.tickStarved

/-- Every way a boundary row can give a next state, guards included (R122 to R129). -/
theorem boundaryCase_cases {p : Bool} {s t : State} (h : boundaryCase p s = .next t) :
    (s.state = .sendingDataCmd ∧ p = true ∧ t = addressFlags (s.setState .sendingAddressCmd)) ∨
    (s.state = .sendingAddressCmd ∧ p = false ∧ t = payloadFlags (s.setState .sendingPayloadBytes)) ∨
    (s.state = .sendingPayloadBytes ∧ s.transferMethod = .singleByteFixedAddress ∧ p = true ∧ t = terminate s) ∨
    (s.state = .sendingPayloadBytes ∧ s.transferMethod = .sixByteAutoAddress ∧ p = false ∧
      ∃ k : s.payloadCursor.val + 1 < 6, s.payloadCursor.val + 1 < 5 ∧
        t = s.setCursor ⟨s.payloadCursor.val + 1, k⟩) ∨
    (s.state = .sendingPayloadBytes ∧ s.transferMethod = .sixByteAutoAddress ∧ p = false ∧ s.payloadCursor.val = 4 ∧
      t = lastByteFlags (s.setCursor 5)) ∨
    (s.state = .sendingPayloadBytes ∧ s.transferMethod = .sixByteAutoAddress ∧ p = true ∧ t = terminate s) ∨
    (s.state = .sendingDisplayCtrlCmd ∧ s.transferMethod = .displayControl ∧ p = true ∧ t = terminate s) := by
  unfold boundaryCase at h
  split at h
  · rename_i hs
    exact .inl ⟨hs, rfl, by cases h; rfl⟩
  · rename_i hs
    exact .inr (.inl ⟨hs, rfl, by cases h; rfl⟩)
  · rename_i hs hm
    exact .inr (.inr (.inl ⟨hs, hm, rfl, by cases h; rfl⟩))
  · rename_i hs hm
    split at h
    · rename_i hc
      have k : s.payloadCursor.val + 1 < 6 := by omega
      refine .inr (.inr (.inr (.inl ⟨hs, hm, rfl, k, hc, ?_⟩)))
      simp only [execWSixNext, advanceCursor, k, dite_true] at h
      cases h; rfl
    · split at h
      · rename_i hc
        have k : s.payloadCursor.val + 1 < 6 := by omega
        refine .inr (.inr (.inr (.inr (.inl ⟨hs, hm, rfl, by omega, ?_⟩))))
        simp only [execWSixLast, advanceCursor, k, dite_true, andThen_next] at h
        cases h
        have : (⟨s.payloadCursor.val + 1, k⟩ : Fin 6) = 5 := Fin.ext (by simpa using hc)
        rw [this]
      · exact absurd h (by simp [execSeqFault, raiseSeqFault])
  · rename_i hs hm
    exact .inr (.inr (.inr (.inr (.inr (.inl ⟨hs, hm, rfl, by cases h; rfl⟩)))))
  · rename_i hs hm
    exact .inr (.inr (.inr (.inr (.inr (.inr ⟨hs, hm, rfl, by cases h; rfl⟩)))))
  · exact absurd h (by simp [execSeqFault, raiseSeqFault])

/-- A boundary row leaves the frame. -/
theorem boundaryCase_frame {p : Bool} {s t : State} (h : boundaryCase p s = .next t) : BoundaryFrame s t := by
  rcases boundaryCase_cases h with ⟨-, -, rfl⟩ | ⟨-, -, rfl⟩ | ⟨-, -, -, rfl⟩ | ⟨-, -, -, -, -, rfl⟩ |
    ⟨-, -, -, -, rfl⟩ | ⟨-, -, -, rfl⟩ | ⟨-, -, -, rfl⟩ <;> constructor <;> rfl

/-- The boundary is its row on the state after the stop condition, if one is asked for (R120). -/
theorem windowBoundary_eq (s : State) :
    windowBoundary s = boundaryCase s.stopPending (if s.stopPending then stopCondition s else s) := by
  unfold windowBoundary execWStop
  split <;> simp

/-! ### The counter and the TICK step -/

theorem wrapAfter_below {t : Fin 19} (h : t.val + 1 < 19) (s : State) :
    wrapAfter t s = .next (s.setTick ⟨t.val + 1, h⟩) := by simp [wrapAfter, Config.windowTicks, h]

theorem wrapAfter_last (s : State) : wrapAfter 18 s = windowBoundary (s.setTick 0) := rfl

/-- A TICK step that runs: the half cell and then the counter (R100). -/
theorem tickStep_runs {s : State} (B : Byte) (he : s.tickEnable = true) (hr : s.state ≠ .ready) :
    tickStep B s = wrapAfter s.tick (halfCell B s.tick (startPrefix s)) := by simp [tickStep, he, hr]

/-! ### Requests -/

@[simp] theorem holdUntilReady_ready {s : State} (h : s.state = .ready) (act : State → StepResult) :
    holdUntilReady s act = act s := by simp [holdUntilReady, h]

@[simp] theorem holdUntilReady_busy {s : State} (h : s.state ≠ .ready) (act : State → StepResult) :
    holdUntilReady s act = .next s := by simp [holdUntilReady, h]

/-- The legal positions are exactly 0..5. -/
theorem legalPosition_fin (d : Fin 6) : legalPosition (Int.ofNat d.val) = some d := by
  revert d; decide

theorem legalPosition_none {p : Int} (h : p < 0 ∨ 5 < p) : legalPosition p = none := by
  simp only [legalPosition]
  split
  · omega
  · rfl

/-- A digit request, ready: it arms at a legal position and answers the error at any other. -/
theorem requestDigit_ready {s : State} (h : s.state = .ready) (p : Int) (v : Byte) :
    (∃ d : Fin 6, legalPosition p = some d ∧ requestDigit p v s = .next (armSingle (perm d) v s)) ∨
    (legalPosition p = none ∧ requestDigit p v s = .next (s.answer .errBadPosition)) := by
  unfold requestDigit
  rw [holdUntilReady_ready h]
  cases hp : legalPosition p with
  | some d => exact .inl ⟨d, rfl, rfl⟩
  | none => exact .inr ⟨rfl, rfl⟩

/-- The covered float calls are the well-formed ones. -/
theorem coveredFloat_isSome (v : FloatArg) (k : Nat) : (coveredFloat v k).isSome = floatCovered v k := by
  cases v with
  | finite q =>
    simp only [coveredFloat, floatCovered]
    by_cases h : 0 ≤ q ∧ q ≤ 999999
    · rw [if_pos h]
      match k with
      | 0 => simp
      | 1 => simp [h.1, h.2]
      | 2 => simp [h.1, h.2]
      | 3 => simp [h.1, h.2]
      | n + 4 => simp
    · rw [if_neg h]
      rcases not_and_or.mp h with h | h <;> simp [h]
  | infinite b => rfl
  | nan => rfl

/-- The permutation is its own inverse (R41). -/
theorem perm_perm (d : Fin 6) : perm (perm d) = d := by revert d; decide

theorem permInv_perm (d : Fin 6) : permInv (perm d) = d := by revert d; decide

/-- Each placed byte stands at its position's slot (R70, R82). -/
theorem placeByPosition_perm (b : Vector Byte 6) (d : Fin 6) : (placeByPosition b)[perm d] = b[d] := by
  simp [placeByPosition, permInv_perm]

end Sys2Proof.Machine
end

