-- ==== Sys2Proof/Laws/PerInstr.lean ====
section
/-! SUPPORT. Statements made instruction by instruction. EncodeFits: an instruction's word has no bit above its own
width, whatever persisted fields a call is expanded with. -/

namespace Sys2Proof.Laws.EncodeFits

/-- The word of `i` fits its width. -/
def Statement (i : Instr) : Prop :=
  ∀ (displayOn : Bool) (brightness : BitVec 3),
    (encode displayOn brightness i).bits < 2 ^ (encode displayOn brightness i).width

theorem state_code_lt (st : EngineState) : st.code < 5 := by cases st <;> decide

theorem method_code_lt (m : Method) : m.code < 3 := by cases m <;> decide

theorem selector_lt (st : EngineState) (m : Method) (stop : Bool) : boundSelector st m stop < 2 ^ 6 := by
  have h := state_code_lt st
  have k := method_code_lt m
  have l : stop.toNat < 2 := Bool.toNat_lt stop
  unfold boundSelector
  omega

theorem core_armAll (b : Vector Byte 6) : (encodeCore (.armAll b)).bits < 2 ^ (encodeCore (.armAll b)).width := by
  have h0 := b[0].isLt
  have h1 := b[1].isLt
  have h2 := b[2].isLt
  have h3 := b[3].isLt
  have h4 := b[4].isLt
  have h5 := b[5].isLt
  simp only [encodeCore, armAllBits]
  omega

theorem core_armCtrl (on : Bool) (level : BitVec 3) :
    (encodeCore (.armCtrl on level)).bits < 2 ^ (encodeCore (.armCtrl on level)).width := by
  have h := level.isLt
  have k : on.toNat < 2 := Bool.toNat_lt on
  simp only [encodeCore]
  omega

theorem core_armDigit (position : Nat) (v : Byte) :
    (encodeCore (.armDigit position v)).bits < 2 ^ (encodeCore (.armDigit position v)).width := by
  have h := v.isLt
  have k := Nat.mod_lt position (Nat.zero_lt_succ 7)
  simp only [encodeCore]
  omega

theorem cmdDataFixed : Statement .cmdDataFixed := by
  intro _ _
  exact (by decide : (encodeCore .cmdDataFixed).bits < 2 ^ (encodeCore .cmdDataFixed).width)

theorem cmdDataAuto : Statement .cmdDataAuto := by
  intro _ _
  exact (by decide : (encodeCore .cmdDataAuto).bits < 2 ^ (encodeCore .cmdDataAuto).width)

theorem cmdAddr (a : BitVec 3) : Statement (.cmdAddr a) := by
  intro _ _
  have h := a.isLt
  simp only [encode, Instr.expand, encodeCore]
  omega

theorem cmdDispCtrl (p : Bool) (b : BitVec 3) : Statement (.cmdDispCtrl p b) := by
  intro _ _
  have h := b.isLt
  have k : p.toNat < 2 := Bool.toNat_lt p
  simp only [encode, Instr.expand, encodeCore]
  omega

theorem payload (v : Byte) : Statement (.payload v) := by
  intro _ _
  exact v.isLt

theorem tStart : Statement .tStart := by
  intro _ _
  exact (by decide : (encodeCore .tStart).bits < 2 ^ (encodeCore .tStart).width)

theorem tBit (b : BitVec 3) : Statement (.tBit b) := by
  intro _ _
  have h := b.isLt
  simp only [encode, Instr.expand, encodeCore]
  omega

theorem tClkhi (t : BitVec 4) : Statement (.tClkhi t) := by
  intro _ _
  have h := t.isLt
  simp only [encode, Instr.expand, encodeCore]
  omega

theorem tAck : Statement .tAck := by
  intro _ _
  exact (by decide : (encodeCore .tAck).bits < 2 ^ (encodeCore .tAck).width)

theorem tTail : Statement .tTail := by
  intro _ _
  exact (by decide : (encodeCore .tTail).bits < 2 ^ (encodeCore .tTail).width)

theorem tWrap (t : BitVec 5) : Statement (.tWrap t) := by
  intro _ _
  exact t.isLt

theorem wStop (st : EngineState) (m : Method) : Statement (.wStop st m) := by
  intro _ _
  exact selector_lt st m true

theorem wDataToAddr (m : Method) : Statement (.wDataToAddr m) := by
  intro _ _
  exact selector_lt .sendingDataCmd m true

theorem wAddrToPayload (m : Method) : Statement (.wAddrToPayload m) := by
  intro _ _
  exact selector_lt .sendingAddressCmd m false

theorem wSingleDone : Statement .wSingleDone := by
  intro _ _
  exact (by decide : (encodeCore .wSingleDone).bits < 2 ^ (encodeCore .wSingleDone).width)

theorem wSixNext : Statement .wSixNext := by
  intro _ _
  exact (by decide : (encodeCore .wSixNext).bits < 2 ^ (encodeCore .wSixNext).width)

theorem wSixLast : Statement .wSixLast := by
  intro _ _
  exact (by decide : (encodeCore .wSixLast).bits < 2 ^ (encodeCore .wSixLast).width)

theorem wSixDone : Statement .wSixDone := by
  intro _ _
  exact (by decide : (encodeCore .wSixDone).bits < 2 ^ (encodeCore .wSixDone).width)

theorem wCtrlDone : Statement .wCtrlDone := by
  intro _ _
  exact (by decide : (encodeCore .wCtrlDone).bits < 2 ^ (encodeCore .wCtrlDone).width)

theorem seqFault (st : EngineState) (m : Method) (stop : Bool) : Statement (.seqFault st m stop) := by
  intro _ _
  exact selector_lt st m stop

theorem armCtrl (on : Bool) (level : BitVec 3) : Statement (.armCtrl on level) := by
  intro _ _
  exact core_armCtrl on level

theorem armAll (b : Vector Byte 6) : Statement (.armAll b) := by
  intro _ _
  exact core_armAll b

theorem armDigit (position : Nat) (v : Byte) : Statement (.armDigit position v) := by
  intro _ _
  exact core_armDigit position v

theorem reqReserved : Statement .reqReserved := by
  intro _ _
  exact (by decide : (encodeCore .reqReserved).bits < 2 ^ (encodeCore .reqReserved).width)

theorem setDigit (position : Int) (v : Byte) : Statement (.setDigit position v) := by
  intro _ _
  unfold encode Instr.expand
  simp only
  split
  · exact core_armDigit position.toNat v
  · exact Nat.one_pos

theorem clearAll : Statement .clearAll := by
  intro _ _
  exact core_armAll Machine.zeroBytes

theorem setPower (on : Bool) : Statement (.setPower on) := by
  intro _ brightness
  exact core_armCtrl on brightness

theorem setBrightness (level : BitVec 3) : Statement (.setBrightness level) := by
  intro displayOn _
  exact core_armCtrl displayOn level

theorem setInteger (value : Int) : Statement (.setInteger value) := by
  intro _ _
  unfold encode Instr.expand
  simp only
  split
  · exact core_armAll _
  · exact Nat.one_pos

theorem setFloat (value : FloatArg) (decimals : Nat) : Statement (.setFloat value decimals) := by
  intro _ _
  unfold encode Instr.expand
  simp only
  split
  · exact core_armAll _
  · exact Nat.one_pos

end Sys2Proof.Laws.EncodeFits
end

