-- ==== Sys2Proof/Laws/Run.lean ====
section
/-! SUPPORT. Runs of the machine, and how the receiver's events of a level trace compose. -/

namespace Sys2Proof.Machine

/-- A run whose first step answers a next state goes on from there. -/
theorem run_succ {s t : State} (n : Nat) (h : step s = .next t) : core.run (n + 1) s = core.run n t := by
  have h' : core.step s = .next t := h
  simp only [Host.Core.run, h']

/-- Runs compose. -/
theorem run_add {s t : State} (m n : Nat) (h : core.run m s = .next t) : core.run (m + n) s = core.run n t := by
  induction m generalizing s with
  | zero =>
    simp only [Host.Core.run] at h
    cases h
    simp
  | succ m ih =>
    simp only [Host.Core.run] at h
    split at h
    · rename_i s' hs
      rw [Nat.add_right_comm, run_succ _ (show step s = .next s' from hs)]
      exact ih h
    · cases h
    · cases h

/-- A machine that holds stays where it is for ever. -/
theorem run_hold {s : State} (n : Nat) (h : step s = .next s) : core.run n s = .next s := by
  induction n with
  | zero => rfl
  | succ n ih => rw [run_succ n h, ih]

/-- The events of two pieces of a trace, the second entered at the last pair of the first. -/
theorem wireEvents_append (p : LinePair) (a b : List LinePair) :
    wireEvents p (a ++ b) = wireEvents p a ++ wireEvents (a.getLast?.getD p) b := by
  induction a generalizing p with
  | nil => rfl
  | cons x a ih =>
    simp only [List.cons_append, wireEvents, ih, List.append_assoc]
    cases a <;> simp [List.getLast?_cons]

/-- What a pin write appends carries the one event of its change. -/
theorem wireEvents_traceOf (p q : LinePair) : wireEvents p (traceOf p q) = wireEvent p q := by
  unfold traceOf
  split
  · rename_i h
    rw [← h]
    simp [wireEvents, wireEvent]
  · simp [wireEvents]

end Sys2Proof.Machine
end

