-- ==== Sys2Proof/Tests/Slice0.lean ====
section
/-! SUPPORT. The model's own tests: the well-formedness smoke, a written-out word for every constructor, one small step
per instruction with the expectation of spec 95_test_vectors.md, and a witness for every obligation that has hypotheses. -/

namespace Sys2Proof.Tests

open Sys2Proof Sys2Proof.Machine

/-! ### Helpers -/

/-- The next state of an outcome, if it is one. -/
def nextOf (o : StepResult) : Option State :=
  match o with
  | .next s => some s
  | .fault _ => none
  | .refused _ => none

/-- The reset state with `display_on` = 0 and `brightness` = 4. -/
def idle : State := State.resetWith false 4 #v[0#8, 0#8, 0#8] #v[0#8, 0#8, 0#8, 0#8, 0#8, 0#8]

/-- A transfer in a window that begins with the flags (start, stop), at tick t, the lines as at the start of it. -/
def window (st : EngineState) (m : Method) (start stop : Bool) (cursor : Fin 6) (t : Fin 19) : State :=
  { idle with
    state := st, transferMethod := m, startPending := start, stopPending := stop, payloadCursor := cursor, tick := t
    tickEnable := true, clockLine := start, dataLine := start
    commandBytes := #v[0x44#8, 0xC3#8, 0x8F#8], payloadBytes := #v[0#8, 0#8, 0#8, 0x3F#8, 0#8, 0#8] }

/-- The first window of `set_digit(0, 0x3F)` (program P1) at tick t. -/
def dataWindow (t : Fin 19) : State := window .sendingDataCmd .singleByteFixedAddress true true 3 t

/-- The six-byte payload window of a cursor at its last tick. -/
def sixWindow (stop : Bool) (cursor : Fin 6) : State :=
  window .sendingPayloadBytes .sixByteAutoAddress false stop cursor 18

/-- A pair of levels as the spec writes it, clock first. -/
def pair (clk dio : Nat) : LinePair := ⟨decide (clk = 1), decide (dio = 1)⟩

/-! ### Well-formedness: what the check refuses -/

theorem test_wf_addr_6_and_7 :
    Instr.wellFormed (.cmdAddr 6) = false ∧ Instr.wellFormed (.cmdAddr 7) = false ∧ Instr.wellFormed (.cmdAddr 5) := by
  decide

theorem test_wf_clkhi_9 : Instr.wellFormed (.tClkhi 9) = false ∧ Instr.wellFormed (.tClkhi 8) := by decide

theorem test_wf_wrap_19 : Instr.wellFormed (.tWrap 19) = false ∧ Instr.wellFormed (.tWrap 18) := by decide

theorem test_wf_fault_with_a_row :
    Instr.wellFormed (.seqFault .sendingDataCmd .displayControl true) = false ∧
    Instr.wellFormed (.seqFault .sendingDataCmd .displayControl false) := by decide

theorem test_wf_armDigit_8 : Instr.wellFormed (.armDigit 8 0) = false ∧ Instr.wellFormed (.armDigit 7 0) := by decide

theorem test_wf_reqReserved : Instr.wellFormed .reqReserved = false := by decide

theorem test_wf_setDigit_range :
    Instr.wellFormed (.setDigit (-1) 0) = false ∧ Instr.wellFormed (.setDigit 8 0) = false ∧
    Instr.wellFormed (.setDigit 7 0) := by decide

theorem test_wf_setInteger_range :
    Instr.wellFormed (.setInteger (-1)) = false ∧ Instr.wellFormed (.setInteger 1000000) = false ∧
    Instr.wellFormed (.setInteger 999999) := by decide

theorem test_wf_setFloat_range :
    Instr.wellFormed (.setFloat (.finite (-1)) 1) = false ∧ Instr.wellFormed (.setFloat (.finite 1000000) 1) = false ∧
    Instr.wellFormed (.setFloat (.finite 1) 0) = false ∧ Instr.wellFormed (.setFloat (.finite 1) 4) = false ∧
    Instr.wellFormed (.setFloat (.infinite true) 1) = false ∧ Instr.wellFormed (.setFloat .nan 1) = false ∧
    Instr.wellFormed (.setFloat (.finite 999999) 3) := by decide

/-! ### Decoding: one word of every row, written out from spec 30_encoding.md sections 2 to 4 -/

theorem test_decode_wire :
    decode ⟨.wire8 .sendingDataCmd, 8, 0b01000100⟩ = some .cmdDataFixed ∧
    decode ⟨.wire8 .sendingDataCmd, 8, 0b01000000⟩ = some .cmdDataAuto ∧
    decode ⟨.wire8 .sendingAddressCmd, 8, 0b11000101⟩ = some (.cmdAddr 5) ∧
    decode ⟨.wire8 .sendingDisplayCtrlCmd, 8, 0b10001010⟩ = some (.cmdDispCtrl true 2) ∧
    decode ⟨.wire8 .sendingDisplayCtrlCmd, 8, 0b10000110⟩ = some (.cmdDispCtrl false 6) ∧
    decode ⟨.wire8 .sendingPayloadBytes, 8, 0b01000100⟩ = some (.payload 0x44) := by decide

theorem test_decode_tick :
    decode ⟨.tick5 .startPrefix, 5, 0b00000⟩ = some .tStart ∧ decode ⟨.tick5 .cell, 5, 0b00110⟩ = some (.tBit 3) ∧
    decode ⟨.tick5 .cell, 5, 0b00111⟩ = some (.tClkhi 3) ∧ decode ⟨.tick5 .cell, 5, 0b10000⟩ = some .tAck ∧
    decode ⟨.tick5 .cell, 5, 0b10010⟩ = some .tTail ∧ decode ⟨.tick5 .wrapSuffix, 5, 0b10010⟩ = some (.tWrap 18) := by
  decide

theorem test_decode_boundary :
    decode ⟨.bound6 .stopPrefix, 6, 0b011001⟩ = some (.wStop .sendingDisplayCtrlCmd .displayControl) ∧
    decode ⟨.bound6 (.row 0), 6, 0b001011⟩ = some (.wDataToAddr .sixByteAutoAddress) ∧
    decode ⟨.bound6 (.row 3), 6, 0b010100⟩ = some (.wAddrToPayload .singleByteFixedAddress) ∧
    decode ⟨.bound6 (.row 3), 6, 0b100101⟩ = some .wSingleDone ∧
    decode ⟨.bound6 (.row 3), 6, 0b100010⟩ = some .wSixNext ∧
    decode ⟨.bound6 (.row 4), 6, 0b100010⟩ = some .wSixLast ∧
    decode ⟨.bound6 (.row 5), 6, 0b100011⟩ = some .wSixDone ∧
    decode ⟨.bound6 (.row 2), 6, 0b011001⟩ = some .wCtrlDone ∧
    decode ⟨.bound6 (.row 5), 6, 0b100010⟩ = some (.seqFault .sendingPayloadBytes .sixByteAutoAddress false) ∧
    decode ⟨.bound6 (.row 0), 6, 0b001100⟩ = some (.seqFault .sendingDataCmd .singleByteFixedAddress false) := by decide

theorem test_decode_request :
    decode ⟨.req, 6, 0b001111⟩ = some (.armCtrl true 7) ∧
    decode ⟨.req, 50, 0b01000001100101101101001111011001100110110101111101⟩ =
      some (.armAll #v[0x06#8, 0x5B#8, 0x4F#8, 0x66#8, 0x6D#8, 0x7D#8]) ∧
    decode ⟨.req, 13, 0b1000000111111⟩ = some (.armDigit 0 0x3F) ∧ decode ⟨.req, 2, 0b11⟩ = some .reqReserved := by
  decide

/-- The calls are written as descriptors: those of programs P1, P3 and P2. -/
theorem test_encode_calls :
    encode false 7 (.setDigit 0 0x3F) = ⟨.req, 13, 0b1000000111111⟩ ∧ encode false 7 .clearAll = ⟨.req, 50, 2 ^ 48⟩ ∧
    encode false 7 (.setPower true) = ⟨.req, 6, 0b001111⟩ ∧
    encode true 7 (.setBrightness 2) = ⟨.req, 6, 0b001010⟩ := by decide

/-- The formatting calls are written as an `ARM_ALL` descriptor: 50 bits, op 01. The bytes are the OPEN policies'. -/
theorem test_encode_formatting_calls :
    (encode false 0 (.setInteger 42)).width = 50 ∧ (encode false 0 (.setFloat (.finite 1) 2)).width = 50 := by decide

theorem test_table_words :
    decodeTableWord 8 0x44 = some .cmdDataFixed ∧ decodeTableWord 8 0xC3 = some (.cmdAddr 3) ∧
    decodeTableWord 8 0x8F = some (.cmdDispCtrl true 7) ∧ decodeTableWord 8 0x7E = some (.payload 0x7E) ∧
    decodeTableWord 16 0x103F = some (.armDigit 0 0x3F) ∧
    decodeTableWord 56 0x1000000000000 = some (.armAll zeroBytes) := by decide

/-- A placed word is what the next step runs. -/
theorem test_withFetchWord_runs :
    nextOf (step (State.reset.withFetchWord 8 0xC3)) = nextOf (exec (.cmdAddr 3) (State.reset.withFetchWord 8 0xC3)) ∧
    (nextOf (step (State.reset.withFetchWord 8 0xC3))).map (·.lines) = some (pair 0 1) ∧
    (nextOf (step (State.reset.withFetchWord 16 0x103F))).map (·.payloadCursor) = some 3 := by decide

/-! ### Requests: 95_test_vectors.md section 2.2 -/

theorem test_armDigit :
    (nextOf (exec (.armDigit 5 0xFF) idle)).map
      (fun t => (t.commandBytes, t.payloadBytes, t.payloadCursor, t.state, t.results)) =
    some (#v[0x44#8, 0xC2#8, 0#8], #v[0#8, 0#8, 0xFF#8, 0#8, 0#8, 0#8], 2, .sendingDataCmd, [.ok]) := by decide

theorem test_armDigit_255 :
    (nextOf (exec (.armDigit 255 0x01) idle)).map (fun t => (t.results, t.state, t.tickEnable)) =
    some ([.errBadPosition], .ready, false) := by decide

theorem test_armAll :
    (nextOf (exec (.armAll #v[1#8, 2#8, 3#8, 4#8, 5#8, 6#8]) idle)).map
      (fun t => (t.commandBytes, t.payloadBytes, t.payloadCursor, t.transferMethod)) =
    some (#v[0x40#8, 0xC0#8, 0#8], #v[4#8, 5#8, 6#8, 1#8, 2#8, 3#8], 0, .sixByteAutoAddress) := by decide

theorem test_armCtrl :
    (nextOf (exec (.armCtrl true 7) idle)).map (fun t => (t.commandBytes[2], t.state, t.displayOn)) =
    some (0x8F#8, .sendingDisplayCtrlCmd, false) := by decide

theorem test_setDigit :
    (nextOf (exec (.setDigit 0 0x3F) idle)).map (fun t => (t.commandBytes[1], t.payloadBytes[3])) =
    some (0xC3#8, 0x3F#8) := by decide

theorem test_setDigit_negative :
    (nextOf (exec (.setDigit (-1) 0x3F) idle)).map (fun t => (t.results, t.state)) =
    some ([.errBadPosition], .ready) := by decide

theorem test_clearAll :
    (nextOf (exec .clearAll (sixWindow true 5))) = some (sixWindow true 5) ∧
    (nextOf (exec .clearAll { idle with payloadBytes := Vector.replicate 6 1 })).map (·.payloadBytes) =
    some zeroBytes := by decide

theorem test_setPower :
    (nextOf (exec (.setPower true) idle)).map (fun t => (t.commandBytes[2], t.displayOn, t.brightness)) =
      some (0x8C#8, true, 4) ∧
    (nextOf (exec (.setPower false) idle)).map (fun t => (t.commandBytes[2], t.displayOn)) =
      some (0x84#8, false) := by decide

theorem test_setBrightness :
    (nextOf (exec (.setBrightness 0) { idle with displayOn := true })).map
      (fun t => (t.commandBytes[2], t.displayOn, t.brightness)) = some (0x88#8, true, 0) ∧
    (nextOf (exec (.setBrightness 3) idle)).map (fun t => t.commandBytes[2]) = some 0x83#8 := by decide

/-! ### The formatting layer: 95_test_vectors.md section 2.5 -/

/-- `set_integer(120345)`: no leading zero, so no OPEN policy shows. -/
theorem test_setInteger_segments :
    (List.range 6).map (fun k => segByte (digit 120345 k)) = [0x6D#8, 0x66#8, 0x4F#8, 0x3F#8, 0x5B#8, 0x06#8] := by
  decide

theorem test_leadingZeros :
    (List.range 6).map (isLeadingZero 0) = [false, true, true, true, true, true] ∧
    (List.range 6).map (isLeadingZero 42) = [false, false, true, true, true, true] ∧
    (List.range 6).map (isLeadingZero 120345) = [false, false, false, false, false, false] := by decide

/-- `set_float(v, decimals)` with `scale` = 123: the point on index `decimals - 1`. -/
theorem test_setFloat_segments :
    floatSegment 123 0 0 = 0xCF#8 ∧ floatSegment 123 1 1 = 0xDB#8 ∧ floatSegment 123 2 2 = 0x86#8 ∧
    floatSegment 123 1 0 = 0x4F#8 := by decide

theorem test_setInteger_uncovered :
    exec (.setInteger 1000000) idle = .refused .formatNotCovered ∧
    exec (.setFloat .nan 1) idle = .refused .formatNotCovered := ⟨rfl, rfl⟩

/-! ### Micro-operations and wire bytes: 95_test_vectors.md section 2.3 -/

theorem test_tStart :
    (nextOf (exec .tStart (dataWindow 0))).map (·.levelTrace) = some [pair 1 0, pair 0 0] := by decide

/-- P1 step 5: bit 2 of 0x44 is the first 1. -/
theorem test_tBit :
    (nextOf (exec (.tBit 2) (dataWindow 4))).map (·.lines) = some (pair 0 1) ∧
    (nextOf (exec (.tBit 1) (dataWindow 2))).map (·.lines) = some (pair 0 0) := by decide

theorem test_tClkhi :
    (nextOf (exec (.tClkhi 3) (sixWindow false 0))).map (fun t => (t.lines, t.levelTrace)) =
    some (pair 1 0, [pair 1 0]) := by decide

/-- Tick 16 after a 1 in bit 7: 11 goes to 01. -/
theorem test_tAck :
    (nextOf (exec .tAck (dataWindow 16))).map (fun t => (t.lines, t.levelTrace)) =
    some (pair 0 1, [pair 0 1]) := by decide

theorem test_tTail :
    (nextOf (exec .tTail (dataWindow 18))).map (·.levelTrace) = some [pair 0 1, pair 0 0] := by decide

theorem test_tWrap :
    (nextOf (exec (.tWrap 17) (dataWindow 17))).map (·.tick) = some 18 ∧
    (nextOf (exec (.tWrap 18) (dataWindow 18))).map (fun t => (t.tick, t.state)) = some (0, .sendingAddressCmd) := by
  decide

/-- P1 steps 1 and 19. -/
theorem test_cmdDataFixed :
    (nextOf (exec .cmdDataFixed (dataWindow 0))).map (fun t => (t.lines, t.tick, t.levelTrace)) =
      some (pair 0 0, 1, [pair 1 0, pair 0 0]) ∧
    (nextOf (exec .cmdDataFixed (dataWindow 18))).map
      (fun t => (t.lines, t.tick, t.state, t.startPending, t.stopPending)) =
      some (pair 1 1, 0, .sendingAddressCmd, true, false) := by decide

/-- Program P3, window 1: 0x40 has its only 1 in bit 6, so tick 4 is low where 0x44 is high. -/
theorem test_cmdDataAuto :
    (nextOf (exec .cmdDataAuto (dataWindow 4))).map (·.lines) = some (pair 0 0) ∧
    (nextOf (exec .cmdDataAuto (dataWindow 12))).map (·.lines) = some (pair 0 1) := by decide

/-- P1 steps 20 and 38. -/
theorem test_cmdAddr :
    (nextOf (exec (.cmdAddr 3) (window .sendingAddressCmd .singleByteFixedAddress true false 3 0))).map (·.lines) =
      some (pair 0 1) ∧
    (nextOf (exec (.cmdAddr 3) (window .sendingAddressCmd .singleByteFixedAddress true false 3 18))).map
      (fun t => (t.lines, t.state, t.startPending, t.stopPending)) =
      some (pair 0 0, .sendingPayloadBytes, false, true) := by decide

/-- Program P2: 0x8A has bit 3 high, and its window ends in `Ready` with the timer stopped. -/
theorem test_cmdDispCtrl :
    (nextOf (exec (.cmdDispCtrl true 2) (window .sendingDisplayCtrlCmd .displayControl true true 0 6))).map (·.lines) =
      some (pair 0 1) ∧
    (nextOf (exec (.cmdDispCtrl true 2) (window .sendingDisplayCtrlCmd .displayControl true true 0 18))).map
      (fun t => (t.lines, t.state, t.tickEnable)) = some (pair 1 1, .ready, false) := by decide

/-- P1 steps 51 and 57. -/
theorem test_payload :
    (nextOf (exec (.payload 0x3F) (window .sendingPayloadBytes .singleByteFixedAddress false true 3 12))).map
      (·.lines) = some (pair 0 0) ∧
    (nextOf (exec (.payload 0x3F) (window .sendingPayloadBytes .singleByteFixedAddress false true 3 18))).map
      (fun t => (t.lines, t.state, t.payloadCursor, t.tickEnable)) = some (pair 1 1, .ready, 3, false) := by decide

/-! ### The window boundary: 95_test_vectors.md section 2.4 -/

theorem test_wStop :
    (nextOf (exec (.wStop .sendingPayloadBytes .sixByteAutoAddress) (sixWindow true 5))).map
      (fun t => (t.levelTrace, t.stopPending)) = some ([pair 1 0, pair 1 1], true) := by decide

theorem test_wDataToAddr :
    (nextOf (exec (.wDataToAddr .singleByteFixedAddress) (dataWindow 0))).map
      (fun t => (t.state, t.startPending, t.stopPending, t.payloadCursor, t.tickEnable)) =
    some (.sendingAddressCmd, true, false, 3, true) := by decide

theorem test_wAddrToPayload :
    (nextOf (exec (.wAddrToPayload .sixByteAutoAddress)
      (window .sendingAddressCmd .sixByteAutoAddress true false 0 0))).map
      (fun t => (t.state, t.startPending, t.stopPending, t.payloadCursor)) =
    some (.sendingPayloadBytes, false, false, 0) := by decide

theorem test_wSingleDone :
    (nextOf (exec .wSingleDone (window .sendingPayloadBytes .singleByteFixedAddress false true 3 0))).map
      (fun t => (t.state, t.startPending, t.stopPending, t.payloadCursor, t.tickEnable)) =
    some (.ready, false, true, 3, false) := by decide

theorem test_wSixNext :
    (nextOf (exec .wSixNext (sixWindow false 3))).map (fun t => (t.state, t.stopPending, t.payloadCursor)) =
    some (.sendingPayloadBytes, false, 4) := by decide

theorem test_wSixLast :
    (nextOf (exec .wSixLast (sixWindow false 4))).map (fun t => (t.state, t.stopPending, t.payloadCursor)) =
    some (.sendingPayloadBytes, true, 5) := by decide

theorem test_wSixDone :
    (nextOf (exec .wSixDone (sixWindow true 5))).map (fun t => (t.state, t.stopPending, t.payloadCursor, t.tickEnable)) =
    some (.ready, true, 5, false) := by decide

theorem test_wCtrlDone :
    (nextOf (exec .wCtrlDone (window .sendingDisplayCtrlCmd .displayControl true true 2 0))).map
      (fun t => (t.state, t.startPending, t.stopPending, t.payloadCursor, t.tickEnable)) =
    some (.ready, true, true, 2, false) := by decide

/-- The unreachable rows of the table fault, and record the combination. -/
theorem test_seqFault :
    exec (.tWrap 18) (sixWindow false 5) = .fault (.seqFault .sendingPayloadBytes .sixByteAutoAddress false 5) ∧
    exec (.seqFault .sendingAddressCmd .displayControl true) idle =
      .fault (.seqFault .sendingAddressCmd .displayControl true 0) := ⟨rfl, rfl⟩

theorem test_reqReserved : exec .reqReserved idle = .refused .reservedRequest := rfl

/-! ### Witnesses: states and operands that meet an obligation's hypotheses, at the edges of its ranges -/

theorem witness_ResetServesTheFirstRequestAtOnce :
    (HostCall.mk .clearAll .foreground).call.isRequest = true ∧ (HostCall.mk .reqReserved .tickOrHigher).call.isRequest := by
  decide

theorem witness_DigitsAreQuotientsAndDetermineTheNumber : (0 : Nat) ≤ 999999 ∧ (999999 : Nat) ≤ 999999 := by decide

theorem witness_DecodeOfEncodeGivesTheInstruction :
    (Instr.wellFormed (.armDigit 7 0xFF) = true ∧ Instr.isCall (.armDigit 7 0xFF) = false) ∧
    (Instr.wellFormed (.setInteger 999999) = true ∧ Instr.isCall (.setInteger 999999) = true) := by decide

theorem witness_EncodeOfDecodeGivesTheWord :
    decode ⟨.tick5 .cell, 5, 0b10001⟩ = some (.tClkhi 8) ∧ decode ⟨.req, 2, 3⟩ = some .reqReserved := by decide

theorem witness_EncodedWordMatchesItsTableRow :
    Instr.wellFormed (.cmdAddr 5) = true ∧ Instr.wellFormed (.setFloat (.finite 0) 1) = true := by decide

theorem witness_ReservedEncodingsAreRefused :
    (0x45 ≠ 0x44 ∧ 0x45 ≠ 0x40) ∧ 0xBF < 0xC0 ∧ 0xC5 < 0xC6 ∧ 0x7F < 0x80 ∧ 0x8F < 0x90 ∧ 18 < 19 ∧ 40 ≤ 40 ∧
    0b000110 / 2 % 4 = 3 ∧ 0b1100000000000 / 2 ^ 11 = 3 := by decide

theorem witness_ArmDigitArmsTheSingleByteTransfer : idle.state = .ready ∧ (5 : Fin 6).val = 5 := by decide

theorem witness_ArmAllArmsTheSixByteTransfer : idle.state = .ready := rfl

theorem witness_ArmCtrlArmsTheControlTransfer : idle.state = .ready := rfl

theorem witness_BadPositionChangesNothing :
    idle.state = .ready ∧ 5 < 6 ∧ ((-1 : Int) < 0 ∨ 5 < (-1 : Int)) ∧ ((6 : Int) < 0 ∨ 5 < (6 : Int)) := by decide

theorem witness_SetDigitArmsTheSingleByteTransfer : idle.state = .ready ∧ Int.ofNat (5 : Fin 6).val = 5 := by decide

theorem witness_ClearAllArmsSixZeroBytes : idle.state = .ready := rfl

theorem witness_PowerAndBrightnessKeepEachOther : idle.state = .ready := rfl

theorem witness_SetIntegerShowsTheDecimalDigits :
    idle.state = .ready ∧ 999999 ≤ 999999 ∧ (0 < (5 : Fin 6).val ∧ 99999 < 10 ^ (5 : Fin 6).val) ∧
    ¬ (99999 < 10 ^ (4 : Fin 6).val) := by decide

theorem witness_SetFloatShowsTheScaledDigitsAndThePoint :
    idle.state = .ready ∧ (0 : ℚ) ≤ 999999 ∧ (999999 : ℚ) ≤ 999999 ∧ (2 : Fin 3).val + 1 = 3 := by
  refine ⟨rfl, ?_, ?_, rfl⟩ <;> norm_num

theorem witness_UncoveredAndReservedRequestsAreRefused :
    ((-1 : Int) < 0 ∨ 999999 < (-1 : Int)) ∧ ((1000000 : Int) < 0 ∨ 999999 < (1000000 : Int)) ∧
    ((-1 : ℚ) < 0 ∨ 999999 < (-1 : ℚ) ∨ 1 = 0 ∨ 3 < 1) ∧ ((1000000 : ℚ) < 0 ∨ 999999 < (1000000 : ℚ) ∨ 1 = 0 ∨ 3 < 1) ∧
    ((1 : ℚ) < 0 ∨ 999999 < (1 : ℚ) ∨ 4 = 0 ∨ 3 < 4) := by
  refine ⟨by decide, by decide, .inl ?_, .inr (.inl ?_), by simp⟩ <;> norm_num

theorem witness_HeldRequestChangesNothing :
    callCovered (.setInteger 999999) = true ∧ callCovered .clearAll = true ∧ (dataWindow 0).state ≠ .ready := by decide

theorem witness_RequestsLeaveTheWireAlone :
    Instr.isRequest (.armCtrl true 7) = true ∧ exec (.armCtrl true 7) idle = .next (armControl true 7 idle) ∧
    exec (.armDigit 6 0) idle = .next (idle.answer .errBadPosition) ∧ idle.state = .ready := ⟨rfl, rfl, rfl, rfl⟩

theorem witness_OnlyItsOwnCallWritesAPersistedField :
    exec .clearAll idle = .next (armSix zeroBytes idle) ∧ (∀ on, Instr.clearAll ≠ .setPower on) ∧
    ∀ level, Instr.clearAll ≠ .setBrightness level := ⟨rfl, nofun, nofun⟩

theorem witness_MicroOperationsDriveTheLines : currentByte (dataWindow 4) = some 0x44#8 := by decide

theorem witness_CurrentByteIsSelectedByTheState :
    (dataWindow 0).state = .sendingDataCmd ∧
    (window .sendingAddressCmd .singleByteFixedAddress true false 3 0).state = .sendingAddressCmd ∧
    (window .sendingDisplayCtrlCmd .displayControl true true 3 0).state = .sendingDisplayCtrlCmd ∧
    (sixWindow true 5).state = .sendingPayloadBytes ∧ idle.state = .ready := by decide

theorem witness_StartAndStopConditionsOnTheTrace : idle.linesAre true true ∧ (sixWindow true 5).linesAre false false := by
  decide

theorem witness_WrapAdvancesTheCounterBelowEighteen : (17 : BitVec 5).toNat < 18 := by decide

theorem witness_SixByteRowsAdvanceTheCursor :
    ((3 : Fin 6).val < 4 ∧ (sixWindow false 3).payloadCursor = 3 ∧ (3 : Fin 6).val + 1 < 6) ∧
    ((0 : Fin 6).val < 4 ∧ (sixWindow false 0).payloadCursor = 0) ∧ (sixWindow false 4).payloadCursor = 4 := by decide

theorem witness_WrapRunsTheRowOfTheSelector :
    (sixWindow false 4).stopPending = false ∧ (sixWindow true 5).stopPending = true := by decide

theorem witness_CombinationsWithoutARowFault :
    ¬ (sixWindow false 5).BoundaryHasRow ∧ (sixWindow false 4).BoundaryHasRow ∧ (sixWindow true 5).BoundaryHasRow ∧
    ¬ (window .sendingDataCmd .singleByteFixedAddress true false 3 18).BoundaryHasRow ∧ ¬ idle.BoundaryHasRow := by decide

theorem witness_TickStepRunsItsMicroOperations :
    (tickRuns (dataWindow 0) = true ∧ (dataWindow 0).state ≠ .ready) ∧ tickRuns (dataWindow 18) = true := by decide

theorem witness_StepRunsTheFetchedByte :
    tickRuns (dataWindow 0) = true ∧ currentByte (dataWindow 0) = some 0x44#8 ∧
    decode ⟨.wire8 (dataWindow 0).state, 8, (0x44#8).toNat⟩ = some .cmdDataFixed := by decide

/-- The idle machine with one call still to make. -/
def called (c : Instr) (ctx : CallContext) : State := { idle with hostCalls := [⟨c, ctx⟩] }

theorem witness_StepCarriesOutTheNextCall :
    (called .clearAll .foreground).state = .ready ∧ (called .clearAll .foreground).tickEnable = false ∧
    (called .clearAll .foreground).hostCalls = ⟨.clearAll, .foreground⟩ :: [] ∧ Instr.isRequest .clearAll = true := by
  decide

theorem witness_WireByteShiftsOneHalfCell :
    wireByte (.cmdAddr 3) = some 0xC3#8 ∧ (dataWindow 17).tickEnable = true ∧ (dataWindow 17).state ≠ .ready ∧
    (dataWindow 17).tick.val < 18 ∧ (dataWindow 17).tick.val % 2 = 1 ∧
    ((dataWindow 14).tick.val % 2 = 0 ∧ (dataWindow 14).tick.val < 16) ∧ (dataWindow 16).tick.val = 16 := by decide

theorem witness_WireByteEndsItsWindow :
    wireByte .cmdDataFixed = some 0x44#8 ∧ (dataWindow 18).tickEnable = true ∧ (dataWindow 18).state ≠ .ready ∧
    (dataWindow 18).tick = 18 ∧ (dataWindow 18).BoundaryHasRow := by decide

theorem witness_StarvedOrBlockedTransferNeverMoves :
    (dataWindow 3).state ≠ .ready ∧ (dataWindow 3).tickEnable = true ∧
    ({ dataWindow 3 with tickStarved := true } : State).tickStarved = true ∧
    tickBlocked { dataWindow 3 with hostCalls := [⟨.clearAll, .tickOrHigher⟩] } = true := by decide

/-- One tick of the first window, as the model runs it. -/
theorem step_dataWindow_0 :
    step (dataWindow 0) = .next ((dataCell 0x44#8 0 (startCondition (dataWindow 0))).setTick 1) := rfl

theorem witness_TickWritesNoBuffer :
    tickRuns (dataWindow 0) = true ∧
    step (dataWindow 0) = .next ((dataCell 0x44#8 0 (startCondition (dataWindow 0))).setTick 1) := ⟨rfl, rfl⟩

/-- The last tick of a six-byte payload window that is not the last one moves the cursor. -/
theorem witness_SequencingChangesOnlyAtTheBoundary :
    tickRuns (sixWindow false 0) = true ∧ (sixWindow false 0).tick = 18 ∧
    step (sixWindow false 0) = .next (((tailCell (sixWindow false 0)).setTick 0).setCursor 1) ∧
    (((tailCell (sixWindow false 0)).setTick 0).setCursor 1).payloadCursor ≠ (sixWindow false 0).payloadCursor ∧
    (dataWindow 0).tick ≠ 18 := ⟨rfl, rfl, rfl, by decide, by decide⟩

theorem witness_ReadyIsEnteredWithTheTimerStopped :
    (sixWindow true 5).state ≠ .ready ∧
    step (sixWindow true 5) = .next (terminate (stopCondition ((tailCell (sixWindow true 5)).setTick 0))) ∧
    (terminate (stopCondition ((tailCell (sixWindow true 5)).setTick 0))).state = .ready := ⟨by decide, rfl, rfl⟩

/-- The invariant has states in every protocol state. -/
theorem witness_EveryStepKeepsTheInvariant :
    (dataWindow 0).Inv ∧
    step (dataWindow 0) = .next ((dataCell 0x44#8 0 (startCondition (dataWindow 0))).setTick 1) :=
  ⟨⟨by decide, by decide, by decide, by decide, by decide, by decide, by decide, by decide, by decide⟩,
    rfl⟩

theorem witness_Inv_idle : idle.Inv :=
  ⟨by decide, by decide, by decide, by decide, by decide, by decide, by decide, by decide, by decide⟩

theorem witness_Inv_address : (window .sendingAddressCmd .singleByteFixedAddress true false 3 0).Inv :=
  ⟨by decide, by decide, by decide, by decide, by decide, by decide, by decide, by decide, by decide⟩

theorem witness_Inv_control : (window .sendingDisplayCtrlCmd .displayControl true true 3 0).Inv :=
  ⟨by decide, by decide, by decide, by decide, by decide, by decide, by decide, by decide, by decide⟩

theorem witness_Inv_payload :
    (sixWindow false 4).Inv ∧ (sixWindow true 5).Inv ∧
    (window .sendingPayloadBytes .singleByteFixedAddress false true 3 0).Inv :=
  ⟨⟨by decide, by decide, by decide, by decide, by decide, by decide, by decide, by decide, by decide⟩,
    ⟨by decide, by decide, by decide, by decide, by decide, by decide, by decide, by decide, by decide⟩,
    ⟨by decide, by decide, by decide, by decide, by decide, by decide, by decide, by decide, by decide⟩⟩

theorem witness_InvariantStatesNeverStop :
    (called (.setInteger 999999) .foreground).Inv ∧ (called (.setInteger 999999) .foreground).CallsCovered :=
  ⟨⟨by decide, by decide, by decide, by decide, by decide, by decide, by decide, by decide, by decide⟩, by decide⟩

theorem witness_WindowWaveform :
    17 < 18 ∧ tickRuns (dataWindow 0) = true ∧ (dataWindow 0).tick = 0 ∧ currentByte (dataWindow 0) = some 0x44#8 := by
  decide

theorem witness_WindowCarriesItsByteOnTheWire :
    tickRuns (dataWindow 0) = true ∧ (dataWindow 0).tick = 0 ∧ currentByte (dataWindow 0) = some 0x44#8 ∧
    (dataWindow 0).BoundaryHasRow ∧ (dataWindow 0).linesAre (dataWindow 0).startPending (dataWindow 0).startPending := by
  decide

theorem witness_TransferTakesNineteenTicksPerByte :
    Instr.isRequest (.armCtrl true 7) = true ∧ idle.state = .ready ∧ idle.tick = 0 ∧ idle.Live ∧
    exec (.armCtrl true 7) idle = .next (armControl true 7 idle) ∧ (armControl true 7 idle).state ≠ .ready :=
  ⟨rfl, rfl, rfl, by decide, rfl, by decide⟩

theorem witness_QueuedCallRunsWhenTheTransferEnds :
    Instr.isRequest (.armCtrl true 7) = true ∧ (called .clearAll .foreground).state = .ready ∧
    (called .clearAll .foreground).tick = 0 ∧ (called .clearAll .foreground).Live ∧
    (called .clearAll .foreground).hostCalls = ⟨.clearAll, .foreground⟩ :: [] ∧ Instr.isRequest .clearAll = true ∧
    exec (.armCtrl true 7) (called .clearAll .foreground) = .next (armControl true 7 (called .clearAll .foreground)) ∧
    (armControl true 7 (called .clearAll .foreground)).state ≠ .ready :=
  ⟨rfl, rfl, rfl, by decide, rfl, rfl, rfl, by decide⟩

/-- The hypotheses of SetDigitOnTheWire, ArmAllOnTheWire, SetPowerOnTheWire and ClearAllTwiceIsIdempotent. -/
theorem witness_transfers_on_the_wire :
    idle.state = .ready ∧ idle.tick = 0 ∧ idle.linesAre true true ∧ idle.Live := by decide

end Sys2Proof.Tests
end

section
/-! PROOFS. The tick sequencer (spec 41_tick_sequencer.md): the clock-high half cell. -/

namespace Sys2Proof.Proofs.TickSequencer

open Sys2Proof Sys2Proof.Machine

/-- The odd branch of R66: below the end of the window an odd tick is a clock-high phase, numbered by its half. -/
theorem decodeTick_cell_odd {n : Nat} (h : n ≤ 8) :
    decodeTick .cell (2 * n + 1) = some (.tClkhi (BitVec.ofNat 4 n)) := by
  have inWindow : ¬ 18 < 2 * n + 1 := by omega
  have odd : (2 * n + 1) % 2 = 1 := by omega
  have half : (2 * n + 1) / 2 = n := by omega
  simp only [decodeTick, if_neg inWindow, if_pos odd, half]

/-- A five-bit TICK5 word is read by the tick table alone. -/
theorem decode_tick5 (place : TickPlace) {n : Nat} (h : n < 2 ^ 5) :
    decode ⟨.tick5 place, 5, n⟩ = decodeTick place n :=
  if_pos ⟨rfl, h⟩

/-- What a clock write appends to the trace depends on the clock line only: the data line is in both pairs (R7, R8). -/
theorem traceOf_write_clk (s : State) (level : Level) :
    traceOf s.lines (s.lines.write .clk level) = if s.clockLine = level then [] else [⟨level, s.dataLine⟩] := by
  simp only [traceOf, LinePair.write_clk, State.lines_dio]
  refine if_congr ?_ rfl rfl
  simp only [State.lines, LinePair.mk.injEq, and_true]

/-- A clock write as a whole next state (R8). -/
theorem pinWrite_clk (s : State) (level : Level) :
    s.pinWrite .clk level = { s with
      clockLine := level
      levelTrace := if s.clockLine = level then s.levelTrace else s.levelTrace ++ [⟨level, s.dataLine⟩] } := by
  rw [State.pinWrite, traceOf_write_clk]
  split
  · rw [List.append_nil]; rfl
  · rfl

/-- `T_CLKHI` is the one clock write of R104, whatever its operand. -/
theorem exec_tClkhi (t : BitVec 4) (s : State) : exec (.tClkhi t) s = .next (s.pinWrite .clk true) := rfl

/-- Settles O24: the odd ticks are below 19 and read by the odd branch of R66; the effect is one clock write. -/
theorem clockHighRaisesTheClockAlone : Obligations.ClockHighRaisesTheClockAlone := by
  refine ⟨fun n h => ?_, fun t s => ?_⟩
  · have fits : 2 * n + 1 < 2 ^ 5 := by omega
    rw [decode_tick5 .cell fits, decodeTick_cell_odd h]
  · rw [exec_tClkhi, pinWrite_clk]

end Sys2Proof.Proofs.TickSequencer
end

section
/-! PROOFS. The window boundary (spec 42_window_boundary.md): the rows of the data and the address command, and the
six-byte rows that advance the cursor. -/

namespace Sys2Proof.Proofs.WindowBoundary

open Sys2Proof Sys2Proof.Machine

/-! ### The boundary selector (R67, R69) -/

@[simp] theorem stateOfCode_code (st : EngineState) : EngineState.ofCode st.code = some st := by cases st <;> rfl

@[simp] theorem methodOfCode_code (m : Method) : Method.ofCode m.code = some m := by cases m <;> rfl

/-- The state is the selector's top three bits. -/
theorem boundSelector_div_eight (st : EngineState) (m : Method) (stop : Bool) :
    boundSelector st m stop / 8 = st.code := by
  have hm := Laws.EncodeFits.method_code_lt m
  have hstop := Bool.toNat_lt stop
  unfold boundSelector
  omega

/-- The method is the two bits above the lowest. -/
theorem boundSelector_div_two_mod_four (st : EngineState) (m : Method) (stop : Bool) :
    boundSelector st m stop / 2 % 4 = m.code := by
  have hm := Laws.EncodeFits.method_code_lt m
  have hstop := Bool.toNat_lt stop
  unfold boundSelector
  omega

/-- The stop flag is the lowest bit. -/
theorem boundSelector_mod_two (st : EngineState) (m : Method) (stop : Bool) :
    boundSelector st m stop % 2 = stop.toNat := by
  have hstop := Bool.toNat_lt stop
  unfold boundSelector
  omega

/-- A six-bit BOUND6 word is read by the boundary table alone. -/
theorem decode_bound6 (place : BoundPlace) {n : Nat} (h : n < 2 ^ 6) :
    decode ⟨.bound6 place, 6, n⟩ = decodeBound place n :=
  if_pos ⟨rfl, h⟩

/-- A selector read as a row at a cursor gives the table's row at that cursor (R67, R120). -/
theorem decode_boundSelector (st : EngineState) (m : Method) (stop : Bool) (c : Fin 6) :
    decode ⟨.bound6 (.row c), 6, boundSelector st m stop⟩ = some (boundaryRow st m stop c) := by
  rw [decode_bound6 _ (Laws.EncodeFits.selector_lt st m stop)]
  simp only [decodeBound, boundSelector_div_eight, boundSelector_div_two_mod_four, boundSelector_mod_two,
    stateOfCode_code, methodOfCode_code]
  cases stop <;> rfl

/-! ### The rows of the table and their effects -/

/-- The six-byte continuation is not the last one while the next cursor is below 5 (R125). -/
theorem boundaryRow_six_next {c : Fin 6} (h : c.val < 4) :
    boundaryRow .sendingPayloadBytes .sixByteAutoAddress false c = .wSixNext :=
  if_pos (Nat.succ_lt_succ h)

/-- The cursor advances to the next one, where there is a next one (R125, R126). -/
theorem advanceCursor_to {s : State} {c : Fin 6} (next : c.val = s.payloadCursor.val + 1) :
    advanceCursor s = .next (s.setCursor c) := by
  obtain ⟨n, below⟩ := c
  subst next
  exact dif_pos below

theorem exec_wDataToAddr (m : Method) (s : State) :
    exec (.wDataToAddr m) s = .next (addressFlags (s.setState .sendingAddressCmd)) := rfl

theorem exec_wAddrToPayload (m : Method) (s : State) :
    exec (.wAddrToPayload m) s = .next (payloadFlags (s.setState .sendingPayloadBytes)) := rfl

theorem exec_wSixNext (s : State) : exec .wSixNext s = advanceCursor s := rfl

theorem exec_wSixLast (s : State) :
    exec .wSixLast s = andThen (advanceCursor s) fun t => .next (lastByteFlags t) := rfl

/-- The flags of the first payload window as a whole state (R123). -/
theorem payloadFlags_eq (s : State) :
    payloadFlags s = { s with
      startPending := false
      stopPending := if s.transferMethod = .singleByteFixedAddress then true else false } := by
  split
  case isTrue single => rw [payloadFlags, decide_eq_true single]; rfl
  case isFalse other => rw [payloadFlags, decide_eq_false other]; rfl

/-! ### The obligations -/

/-- Settles O30: the data command's selector is the same row for every method and cursor, and its effect is the state
and the two flags. -/
theorem dataWindowIsFollowedByTheAddressWindow : Obligations.DataWindowIsFollowedByTheAddressWindow := by
  refine fun m => ⟨fun c => decode_boundSelector .sendingDataCmd m true c, fun s => ?_⟩
  rw [exec_wDataToAddr]
  rfl

/-- Settles O31: the address command's selector is the same row for every method and cursor, and the stop flag of the
payload is read off the method the state holds. -/
theorem addressWindowIsFollowedByThePayload : Obligations.AddressWindowIsFollowedByThePayload := by
  refine fun m => ⟨fun c => decode_boundSelector .sendingAddressCmd m false c, fun s => ?_⟩
  rw [exec_wAddrToPayload, payloadFlags_eq]
  rfl

/-- Settles O32: the row of the selector turns on the cursor, and both rows advance it where it can advance. -/
theorem sixByteRowsAdvanceTheCursor : Obligations.SixByteRowsAdvanceTheCursor := by
  refine ⟨fun c below => ?_, decode_boundSelector .sendingPayloadBytes .sixByteAutoAddress false 4,
    fun s => ⟨fun c _ cursor isCursor => ?_, fun cursor => ?_⟩⟩
  · rw [decode_boundSelector, boundaryRow_six_next below]
  · have next : (⟨c.val + 1, isCursor⟩ : Fin 6).val = s.payloadCursor.val + 1 := by rw [cursor]
    rw [exec_wSixNext, advanceCursor_to next]
    rfl
  · have next : (5 : Fin 6).val = s.payloadCursor.val + 1 := by rw [cursor]; rfl
    rw [exec_wSixLast, advanceCursor_to next, andThen_next]
    rfl

end Sys2Proof.Proofs.WindowBoundary
end

section
/-! PROOFS. Host formatting (spec 43_host_formatting.md): the decimal digits of a number (R142). -/

namespace Sys2Proof.Proofs.HostFormatting

open Sys2Proof Sys2Proof.Machine

/-- One turn of the source's loop before the digit of index k is one more division by ten under the quotient. -/
theorem digit_eq_div_mod (n k : Nat) : digit n k = n / 10 ^ k % 10 := by
  induction k generalizing n with
  | zero => rw [digit, pow_zero, Nat.div_one]
  | succ k ih => rw [digit, ih, Nat.div_div_eq_div_mul, pow_succ']

/-- The lowest m digits, each with its weight, are the remainder by 10^m: of a number of any size, not only of the six
digits the display has. -/
theorem sum_digits_eq_mod (n m : Nat) :
    (List.range m).foldl (fun sum k => sum + digit n k * 10 ^ k) 0 = n % 10 ^ m := by
  induction m with
  | zero => rw [pow_zero, Nat.mod_one]; rfl
  | succ m ih =>
    rw [List.range_succ, List.foldl_append, ih, List.foldl_cons, List.foldl_nil, digit_eq_div_mod, Nat.mod_pow_succ,
      Nat.mul_comm]

/-- Settles O4: the six digits sum to the remainder by 10^6, which is the number itself up to 999999. -/
theorem digitsAreQuotientsAndDetermineTheNumber : Obligations.DigitsAreQuotientsAndDetermineTheNumber := by
  refine ⟨digit_eq_div_mod, fun n atMost => ?_⟩
  have small : n < 10 ^ 6 := Nat.lt_succ_of_le atMost
  rw [sum_digits_eq_mod, Nat.mod_eq_of_lt small]

end Sys2Proof.Proofs.HostFormatting
end

section
/-! PROOFS. Requests (spec 40_requests.md): what a request can do is said once, over all the rows HOST may issue, and
the statements about requests follow. -/

namespace Sys2Proof.Proofs.Requests

open Sys2Proof Sys2Proof.Machine

/-! ### What a request serves -/

/-- The state t is what request i arms in a state s: one of the arming operations (R81 to R87); `set_power` and
`set_brightness` first write their persisted field (D30). -/
inductive Arms (i : Instr) (s : State) : State → Prop
  | digit (a : Fin 6) (v : Byte) : Arms i s (armSingle a v s)
  | all (b : Vector Byte 6) : Arms i s (armSix b s)
  | control (on : Bool) (level : BitVec 3) : Arms i s (armControl on level s)
  | power (on : Bool) : i = .setPower on → Arms i s (armControl on s.brightness (s.setDisplayOn on))
  | brightness (level : BitVec 3) : i = .setBrightness level →
      Arms i s (armControl s.displayOn level (s.setBrightness level))

/-- The state t is what request i makes of a state s in `Ready`: the error (R161), or a transfer armed. -/
inductive Served (i : Instr) (s : State) : State → Prop
  | badPosition : Served i s (s.answer .errBadPosition)
  | arms {t : State} : Arms i s t → Served i s t

/-- Request i waits for `Ready` and then does what `serve` says. -/
structure Serves (i : Instr) (serve : State → State) : Prop where
  exec_eq : ∀ s, exec i s = holdUntilReady s fun s => .next (serve s)
  served : ∀ s, Served i s (serve s)

/-- What a digit request makes of a state in `Ready`. -/
def serveDigit (position : Int) (v : Byte) (s : State) : State :=
  match legalPosition position with
  | some d => armSingle (perm d) v s
  | none => s.answer .errBadPosition

theorem requestDigit_eq (position : Int) (v : Byte) (s : State) :
    requestDigit position v s = holdUntilReady s fun s => .next (serveDigit position v s) := by
  unfold requestDigit serveDigit
  cases legalPosition position <;> rfl

theorem served_serveDigit (i : Instr) (position : Int) (v : Byte) (s : State) :
    Served i s (serveDigit position v s) := by
  unfold serveDigit
  cases legalPosition position with
  | some d => exact .arms (.digit (perm d) v)
  | none => exact .badPosition

/-- Every request the spec covers waits and then serves (R80). -/
theorem serves_of_covered {i : Instr} (covered : callCovered i = true) : ∃ serve, Serves i serve := by
  cases i with
  | armCtrl on level => exact ⟨_, fun _ => rfl, fun _ => .arms (.control on level)⟩
  | armAll b => exact ⟨_, fun _ => rfl, fun _ => .arms (.all b)⟩
  | armDigit position v => exact ⟨_, requestDigit_eq position v, served_serveDigit _ _ v⟩
  | setDigit position v => exact ⟨_, requestDigit_eq position v, served_serveDigit _ _ v⟩
  | clearAll => exact ⟨_, fun _ => rfl, fun _ => .arms (.all zeroBytes)⟩
  | setPower on => exact ⟨_, fun _ => rfl, fun _ => .arms (.power on rfl)⟩
  | setBrightness level => exact ⟨_, fun _ => rfl, fun _ => .arms (.brightness level rfl)⟩
  | setInteger value =>
    obtain ⟨n, isCovered⟩ := Option.isSome_iff_exists.mp covered
    exact ⟨_, fun s => by simp only [exec, execSetInteger, isCovered]; rfl, fun _ => .arms (.all (formatInteger n))⟩
  | setFloat value decimals =>
    obtain ⟨⟨q, point⟩, isCovered⟩ := Option.isSome_iff_exists.mp covered
    exact ⟨_, fun s => by simp only [exec, execSetFloat, isCovered]; rfl, fun _ => .arms (.all (formatFloat q point))⟩
  | _ => cases covered

theorem exec_setInteger_uncovered {value : Int} (uncovered : coveredInteger value = none) (s : State) :
    exec (.setInteger value) s = .refused .formatNotCovered := by
  simp only [exec, execSetInteger, uncovered]

theorem exec_setFloat_uncovered {value : FloatArg} {decimals : Nat} (uncovered : coveredFloat value decimals = none)
    (s : State) : exec (.setFloat value decimals) s = .refused .formatNotCovered := by
  simp only [exec, execSetFloat, uncovered]

/-- A request the spec does not cover is refused in every state (R71, D24). -/
theorem refused_of_not_covered {i : Instr} (request : i.isRequest = true) (uncovered : callCovered i = false) :
    ∃ r, ∀ s, exec i s = .refused r := by
  cases i with
  | reqReserved => exact ⟨.reservedRequest, fun _ => rfl⟩
  | setInteger value =>
    have none := Option.isNone_iff_eq_none.mp (Option.isSome_eq_false_iff.mp uncovered)
    exact ⟨.formatNotCovered, exec_setInteger_uncovered none⟩
  | setFloat value decimals =>
    have none := Option.isNone_iff_eq_none.mp (Option.isSome_eq_false_iff.mp uncovered)
    exact ⟨.formatNotCovered, exec_setFloat_uncovered none⟩
  | armCtrl | armAll | armDigit | setDigit | clearAll | setPower | setBrightness => cases uncovered
  | _ => cases request

/-- What a request can do: wait and change nothing, or in `Ready` serve. -/
theorem request_cases {i : Instr} {s t : State} (request : i.isRequest = true) (next : exec i s = .next t) :
    (s.state ≠ .ready ∧ t = s) ∨ (s.state = .ready ∧ Served i s t) := by
  cases covered : callCovered i with
  | false =>
    obtain ⟨r, refused⟩ := refused_of_not_covered request covered
    rw [refused] at next; cases next
  | true =>
    obtain ⟨serve, serves⟩ := serves_of_covered covered
    rw [serves.exec_eq] at next
    by_cases ready : s.state = .ready
    · rw [holdUntilReady_ready ready] at next
      cases next
      exact .inr ⟨ready, serves.served s⟩
    · rw [holdUntilReady_busy ready] at next
      cases next
      exact .inl ⟨ready, rfl⟩

/-- A covered request always completes. -/
theorem exec_of_covered {i : Instr} (covered : callCovered i = true) (s : State) : ∃ t, exec i s = .next t := by
  obtain ⟨serve, serves⟩ := serves_of_covered covered
  rw [serves.exec_eq]
  by_cases ready : s.state = .ready
  · exact ⟨serve s, holdUntilReady_ready ready _⟩
  · exact ⟨s, holdUntilReady_busy ready _⟩

/-- No request is a fault. -/
theorem exec_request_ne_fault {i : Instr} (request : i.isRequest = true) (s : State) (r : Fault) :
    exec i s ≠ .fault r := by
  cases covered : callCovered i with
  | false =>
    obtain ⟨refusal, refused⟩ := refused_of_not_covered request covered
    rw [refused]; exact nofun
  | true =>
    obtain ⟨t, next⟩ := exec_of_covered covered s
    rw [next]; exact nofun

/-- A call the spec covers is a request. -/
theorem isRequest_of_covered {i : Instr} (covered : callCovered i = true) : i.isRequest = true := by
  cases i with
  | setInteger | setFloat => rfl
  | reqReserved => cases covered
  | _ => exact covered

/-- What serving leaves as it was: the wire, the counter and the surroundings. -/
structure WireFrame (s t : State) : Prop where
  clockLine : t.clockLine = s.clockLine
  dataLine : t.dataLine = s.dataLine
  levelTrace : t.levelTrace = s.levelTrace
  tick : t.tick = s.tick
  hostCalls : t.hostCalls = s.hostCalls
  tickStarved : t.tickStarved = s.tickStarved

theorem Arms.wireFrame {i : Instr} {s t : State} (arms : Arms i s t) : WireFrame s t := by
  cases arms <;> constructor <;> rfl

theorem Served.wireFrame {i : Instr} {s t : State} (served : Served i s t) : WireFrame s t := by
  cases served with
  | badPosition => constructor <;> rfl
  | arms arms => exact arms.wireFrame

/-- No request touches the wire, the counter or the surroundings. -/
theorem request_wireFrame {i : Instr} {s t : State} (request : i.isRequest = true) (next : exec i s = .next t) :
    WireFrame s t := by
  rcases request_cases request next with ⟨_, rfl⟩ | ⟨_, served⟩
  · constructor <;> rfl
  · exact served.wireFrame

/-- Serving arms and answers `OK`, or answers the error and changes nothing else (R33, R161). -/
theorem Served.arms_or_error {i : Instr} {s t : State} (served : Served i s t) :
    (t.results = s.results ++ [.ok] ∧ t.state ≠ .ready ∧ t.tickEnable = true) ∨
    (t.results = s.results ++ [.errBadPosition] ∧ t = { s with results := t.results }) := by
  cases served with
  | badPosition => exact .inr ⟨rfl, rfl⟩
  | arms arms => cases arms <;> exact .inl ⟨rfl, nofun, rfl⟩

/-! ### The obligations -/

/-- Settles O20: every covered request is a wait around what it serves. -/
theorem heldRequestChangesNothing : Obligations.HeldRequestChangesNothing := by
  intro i s covered busy
  obtain ⟨serve, serves⟩ := serves_of_covered covered
  rw [serves.exec_eq, holdUntilReady_busy busy]

/-- Settles O21: serving leaves the wire alone, and answers `OK` exactly when it arms. -/
theorem requestsLeaveTheWireAlone : Obligations.RequestsLeaveTheWireAlone := by
  intro i s t request next
  obtain ⟨clk, dio, trace, tick, calls, starved⟩ := request_wireFrame request next
  refine ⟨clk, dio, trace, tick, calls, starved, fun ready => ?_⟩
  rcases request_cases request next with ⟨busy, _⟩ | ⟨_, served⟩
  · exact absurd ready busy
  · exact served.arms_or_error

/-- The finite values and point positions outside the covered ranges (R144, U21). -/
theorem coveredFloat_finite_eq_none {q : ℚ} {k : Nat} (outside : q < 0 ∨ 999999 < q ∨ k = 0 ∨ 3 < k) :
    coveredFloat (.finite q) k = none := by
  have notCovered : floatCovered (.finite q) k = false := by
    simp only [floatCovered, Bool.and_eq_false_iff, decide_eq_false_iff_not, not_le, Nat.lt_one_iff]
    tauto
  rw [← Option.isNone_iff_eq_none, ← Option.isSome_eq_false_iff, coveredFloat_isSome, notCovered]

/-- Settles O19: the covered ranges exclude each of the operands named. -/
theorem uncoveredAndReservedRequestsAreRefused : Obligations.UncoveredAndReservedRequestsAreRefused := by
  intro s
  refine ⟨fun v outside => ?_, fun q k outside => ?_, fun _ _ => rfl, fun _ => rfl, rfl⟩
  · exact exec_setInteger_uncovered (if_neg (by omega)) s
  · exact exec_setFloat_uncovered (coveredFloat_finite_eq_none outside) s

end Sys2Proof.Proofs.Requests
end

section
/-! PROOFS. The arming operations as whole next states (spec 40_requests.md sections 2 and 3). -/

namespace Sys2Proof.Proofs.Arming

open Sys2Proof Sys2Proof.Machine Sys2Proof.Proofs.Requests

/-! ### The bytes an arming operation loads -/

/-- The address command of a logical address as the spec writes it (R63, R70). -/
theorem addressByteOf_eq (a : Fin 6) : addressByteOf a = 0xC0#8 ||| BitVec.ofNat 8 a.val := by
  revert a; decide

/-- The display-control command as a number (R64, D13). -/
theorem ctrlByte_eq (on : Bool) (level : BitVec 3) :
    ctrlByte on level = BitVec.ofNat 8 (0x80 + (if on then 8 else 0) + level.toNat) := by
  revert on level; decide

/-- The payload of a six-byte transfer by logical address (R41, R82). -/
theorem placeByPosition_eq (b : Vector Byte 6) : placeByPosition b = #v[b[3], b[4], b[5], b[0], b[1], b[2]] := rfl

/-- Loading the first two command bytes leaves the third. -/
theorem set_zero_set_one (cmd : Vector Byte 3) (x y : Byte) : (cmd.set 0 x).set 1 y = #v[x, y, cmd[2]] := by
  ext i h
  match i with
  | 0 | 1 | 2 => simp

/-- Loading the third command byte leaves the first two. -/
theorem set_two (cmd : Vector Byte 3) (x : Byte) : cmd.set 2 x = #v[cmd[0], cmd[1], x] := by
  ext i h
  match i with
  | 0 | 1 | 2 => simp

/-! ### The whole states -/

theorem armSingle_eq (a : Fin 6) (v : Byte) (s : State) : armSingle a v s = { s with
    commandBytes := #v[0x44#8, 0xC0#8 ||| BitVec.ofNat 8 a.val, s.commandBytes[2]]
    payloadBytes := s.payloadBytes.set a v
    payloadCursor := a
    transferMethod := .singleByteFixedAddress
    startPending := true
    stopPending := true
    state := .sendingDataCmd
    tickEnable := true
    results := s.results ++ [.ok] } := by
  rw [← addressByteOf_eq, ← set_zero_set_one]; rfl

theorem armSix_eq (b : Vector Byte 6) (s : State) : armSix b s = { s with
    commandBytes := #v[0x40#8, 0xC0#8, s.commandBytes[2]]
    payloadBytes := #v[b[3], b[4], b[5], b[0], b[1], b[2]]
    payloadCursor := 0
    transferMethod := .sixByteAutoAddress
    startPending := true
    stopPending := true
    state := .sendingDataCmd
    tickEnable := true
    results := s.results ++ [.ok] } := by
  rw [← placeByPosition_eq, ← set_zero_set_one]; rfl

theorem armControl_eq (on : Bool) (level : BitVec 3) (s : State) : armControl on level s = { s with
    commandBytes :=
      #v[s.commandBytes[0], s.commandBytes[1], BitVec.ofNat 8 (0x80 + (if on then 8 else 0) + level.toNat)]
    transferMethod := .displayControl
    startPending := true
    stopPending := true
    state := .sendingDisplayCtrlCmd
    tickEnable := true
    results := s.results ++ [.ok] } := by
  rw [← ctrlByte_eq, ← set_two]; rfl

/-! ### Requests in `Ready` -/

theorem requestDigit_legal {s : State} (ready : s.state = .ready) (d : Fin 6) (v : Byte) :
    requestDigit (Int.ofNat d.val) v s = .next (armSingle (perm d) v s) := by
  rw [requestDigit_eq, holdUntilReady_ready ready, serveDigit, legalPosition_fin]

theorem requestDigit_illegal {s : State} (ready : s.state = .ready) {p : Int} (outside : p < 0 ∨ 5 < p) (v : Byte) :
    requestDigit p v s = .next (s.answer .errBadPosition) := by
  rw [requestDigit_eq, holdUntilReady_ready ready, serveDigit, legalPosition_none outside]

theorem requestAll_ready {s : State} (ready : s.state = .ready) (b : Vector Byte 6) :
    requestAll b s = .next (armSix b s) :=
  holdUntilReady_ready ready _

theorem exec_setDigit {s : State} (ready : s.state = .ready) (d : Fin 6) (v : Byte) :
    exec (.setDigit (Int.ofNat d.val) v) s = .next (armSingle (perm d) v s) :=
  requestDigit_legal ready d v

theorem exec_armAll {s : State} (ready : s.state = .ready) (b : Vector Byte 6) :
    exec (.armAll b) s = .next (armSix b s) :=
  requestAll_ready ready b

theorem exec_clearAll {s : State} (ready : s.state = .ready) : exec .clearAll s = .next (armSix zeroBytes s) :=
  requestAll_ready ready zeroBytes

theorem exec_setPower {s : State} (ready : s.state = .ready) (on : Bool) :
    exec (.setPower on) s = .next (armControl on s.brightness (s.setDisplayOn on)) := by
  rw [exec, execSetPower, holdUntilReady_ready ready]

theorem exec_setBrightness {s : State} (ready : s.state = .ready) (level : BitVec 3) :
    exec (.setBrightness level) s = .next (armControl s.displayOn level (s.setBrightness level)) := by
  rw [exec, execSetBrightness, holdUntilReady_ready ready]

/-! ### The obligations -/

/-- Settles O3: the table is closed arithmetic on six positions. -/
theorem permutationIsItsOwnInverse : Obligations.PermutationIsItsOwnInverse :=
  ⟨rfl, rfl, rfl, rfl, rfl, rfl, fun _ => rfl, perm_perm, fun _ => rfl⟩

/-- Settles O10: a legal position is served by the single-byte arming. -/
theorem armDigitArmsTheSingleByteTransfer : Obligations.ArmDigitArmsTheSingleByteTransfer := by
  intro s d v ready
  rw [← armSingle_eq]
  exact requestDigit_legal ready d v

/-- Settles O11: `ARM_ALL` is the six-byte arming, written out. -/
theorem armAllArmsTheSixByteTransfer : Obligations.ArmAllArmsTheSixByteTransfer := by
  intro s b ready
  rw [exec_armAll ready, armSix_eq]

/-- Settles O12: `ARM_CTRL` is the display-control arming, written out. -/
theorem armCtrlArmsTheControlTransfer : Obligations.ArmCtrlArmsTheControlTransfer := by
  intro s on level ready
  rw [exec, execArmCtrl, requestControl, holdUntilReady_ready ready, armControl_eq]

/-- Settles O13: the legality check fails outside 0..5, for naturals and integers alike. -/
theorem badPositionChangesNothing : Obligations.BadPositionChangesNothing := by
  intro s v ready
  refine ⟨fun p outside => ?_, fun p outside => requestDigit_illegal ready outside v⟩
  have outside' : (p : Int) < 0 ∨ 5 < (p : Int) := by omega
  exact requestDigit_illegal ready outside' v

/-- Settles O14: `set_digit` is the same request as `ARM_DIGIT`. -/
theorem setDigitArmsTheSingleByteTransfer : Obligations.SetDigitArmsTheSingleByteTransfer := by
  intro s d v ready
  refine ⟨_, exec_setDigit ready d v, ?_⟩
  rw [armSingle_eq]
  exact ⟨rfl, rfl, rfl, rfl, rfl, rfl, rfl, rfl, rfl, rfl, rfl, rfl, rfl, rfl, rfl, rfl⟩

/-- Settles O15: the six-byte arming of six zero bytes, written out. -/
theorem clearAllArmsSixZeroBytes : Obligations.ClearAllArmsSixZeroBytes := by
  intro s ready
  rw [exec_clearAll ready, armSix_eq]
  rfl

/-- Settles O16: the display-control arming, after the call's own field is written. -/
theorem powerAndBrightnessKeepEachOther : Obligations.PowerAndBrightnessKeepEachOther := by
  intro s ready
  refine ⟨fun on => ?_, fun level => ?_⟩
  · rw [exec_setPower ready, armControl_eq]; rfl
  · rw [exec_setBrightness ready, armControl_eq]; rfl

end Sys2Proof.Proofs.Arming
end

section
/-! PROOFS. The formatting calls (spec 43_host_formatting.md R143 to R145). -/

namespace Sys2Proof.Proofs.HostFormatting

open Sys2Proof Sys2Proof.Machine Sys2Proof.Proofs.Arming

/-- Each digit's segment byte stands at its position (R143). -/
theorem placeDigits_lsdPosition (f : Fin 6 → Byte) (k : Fin 6) : (placeDigits f)[Config.lsdPosition k] = f k := by
  simp [placeDigits]

/-- A digit's segment byte, written with the number's quotient (R142, R143). -/
theorem digitSegment_eq (n k : Nat) :
    digitSegment n k = if 0 < k ∧ n < 10 ^ k ∧ Config.leadingZeroBlank = true then 0#8
      else Config.segTable[n / 10 ^ k % 10]'(Nat.mod_lt _ (Nat.zero_lt_succ 9)) := by
  simp only [digitSegment, isLeadingZero, segByte, digit_eq_div_mod, Nat.mod_mod, Bool.and_eq_true, decide_eq_true_eq,
    and_assoc]

/-- The decimal point is one more bit on the slot of the point's index (R145). -/
theorem floatSegment_eq (n : Nat) (point : Fin 3) (k : Nat) :
    floatSegment n point k = digitSegment n k ||| (if k = point.val then 0x80#8 else 0#8) := by
  unfold floatSegment
  split
  · rfl
  · rw [BitVec.or_zero]

theorem coveredInteger_ofNat {n : Nat} (atMost : n ≤ 999999) : coveredInteger (Int.ofNat n) = some n := by
  have inRange : 0 ≤ (n : Int) ∧ (n : Int) ≤ 999999 := by omega
  exact if_pos inRange

theorem coveredFloat_finite {q : ℚ} (nonneg : 0 ≤ q) (atMost : q ≤ 999999) (point : Fin 3) :
    coveredFloat (.finite q) (point.val + 1) = some (q, point) := by
  match point with
  | 0 | 1 | 2 => exact if_pos ⟨nonneg, atMost⟩

/-- What both formatting calls show: the six-byte transfer of the digits' bytes, each at its position's slot. -/
theorem placeDigits_shown {s : State} {i : Instr} (f : Fin 6 → Byte) (ready : s.state = .ready)
    (formats : exec i s = requestAll (placeDigits f) s) :
    ∃ t, exec i s = .next t ∧ exec (.armAll (placeDigits f)) s = .next t ∧
      (∀ k : Fin 6, t.payloadBytes[perm (Config.lsdPosition k)] = (placeDigits f)[Config.lsdPosition k]) ∧
      t.state = .sendingDataCmd ∧ t.transferMethod = .sixByteAutoAddress ∧ t.results = s.results ++ [.ok] :=
  ⟨armSix (placeDigits f) s, formats.trans (requestAll_ready ready _), exec_armAll ready _,
    fun _ => placeByPosition_perm _ _, rfl, rfl, rfl⟩

/-- Settles O17: each digit is a quotient modulo ten, and each byte stands at its position's slot. -/
theorem setIntegerShowsTheDecimalDigits : Obligations.SetIntegerShowsTheDecimalDigits := by
  intro s n ready atMost
  have formats : exec (.setInteger (Int.ofNat n)) s = requestAll (formatInteger n) s := by
    simp only [exec, execSetInteger, coveredInteger_ofNat atMost]
  obtain ⟨t, next, same, shown⟩ := placeDigits_shown _ ready formats
  refine ⟨t, _, next, same, fun k => ?_, shown⟩
  rw [placeDigits_lsdPosition, digitSegment_eq]

/-- Settles O18: as for `set_integer`, on the scaled number, with the point one more bit on its own slot. -/
theorem setFloatShowsTheScaledDigitsAndThePoint : Obligations.SetFloatShowsTheScaledDigitsAndThePoint := by
  intro s q point ready nonneg atMost
  have formats : exec (.setFloat (.finite q) (point.val + 1)) s = requestAll (formatFloat q point) s := by
    simp only [exec, execSetFloat, coveredFloat_finite nonneg atMost]
  obtain ⟨t, next, same, shown⟩ := placeDigits_shown _ ready formats
  refine ⟨t, _, next, same, fun k => ?_, shown⟩
  rw [placeDigits_lsdPosition, floatSegment_eq, digitSegment_eq]

end Sys2Proof.Proofs.HostFormatting
end

section
/-! PROOFS. The encodings of the five formats (spec 30_encoding.md): the decoder and the encoder against each other and
against the opcode table. -/

namespace Sys2Proof.Proofs.Encoding

open Sys2Proof Sys2Proof.Machine Sys2Proof.Proofs.TickSequencer Sys2Proof.Proofs.WindowBoundary

/-! ### From the instruction to its word and back -/

/-- A byte word of eight bits is read by the table of its window alone. -/
theorem decode_wire8 (st : EngineState) (B : Byte) : decode ⟨.wire8 st, 8, B.toNat⟩ = decodeWire st B.toNat :=
  if_pos ⟨rfl, B.isLt⟩

/-- A selector without a row at every cursor has none at cursor 5, so that it is read as the fault there (R67, R130). -/
theorem boundaryRow_five {st : EngineState} {m : Method} {stop : Bool}
    (noRow : hasRowForEveryCursor st m stop = false) : boundaryRow st m stop 5 = .seqFault st m stop := by
  unfold boundaryRow
  split
  case h_4 | h_7 => rfl
  all_goals cases noRow

/-! One equation for each of the two wider request descriptors (R68). -/

theorem decodeReq_armDigit {n : Nat} (op : n / 2 ^ 11 = 2) :
    decodeReq 13 n = some (.armDigit (n / 2 ^ 8 % 8) (BitVec.ofNat 8 n)) := by
  rw [decodeReq, if_neg (by omega), if_neg (by omega), if_pos ⟨rfl, op⟩]

theorem decodeReq_armAll {n : Nat} (op : n / 2 ^ 48 = 1) :
    decodeReq 50 n = some (.armAll #v[BitVec.ofNat 8 (n / 2 ^ 40), BitVec.ofNat 8 (n / 2 ^ 32),
      BitVec.ofNat 8 (n / 2 ^ 24), BitVec.ofNat 8 (n / 2 ^ 16), BitVec.ofNat 8 (n / 2 ^ 8), BitVec.ofNat 8 n]) := by
  rw [decodeReq, if_neg (by omega), if_pos ⟨rfl, op⟩]

/-- A byte is the low eight bits of a number. -/
theorem ofNat_eq_byte {n : Nat} {v : Byte} (low : n % 2 ^ 8 = v.toNat) : BitVec.ofNat 8 n = v :=
  BitVec.eq_of_toNat_eq (by rw [BitVec.toNat_ofNat, low])

theorem decode_armDigit {p : Nat} (atMost : p ≤ 7) (v : Byte) :
    decode (encodeCore (.armDigit p v)) = some (.armDigit p v) := by
  have small := v.isLt
  have op : (2 ^ 12 + p % 8 * 2 ^ 8 + v.toNat) / 2 ^ 11 = 2 := by omega
  have position : (2 ^ 12 + p % 8 * 2 ^ 8 + v.toNat) / 2 ^ 8 % 8 = p := by omega
  have byte : BitVec.ofNat 8 (2 ^ 12 + p % 8 * 2 ^ 8 + v.toNat) = v := ofNat_eq_byte (by omega)
  exact (decodeReq_armDigit op).trans (by rw [position, byte])

/-- The descriptor of `ARM_ALL` has op 1 over its six bytes (R68). -/
theorem armAllBits_fields (b : Vector Byte 6) : armAllBits b / 2 ^ 48 = 1 ∧
    armAllBits b / 2 ^ 40 % 2 ^ 8 = b[0].toNat ∧ armAllBits b / 2 ^ 32 % 2 ^ 8 = b[1].toNat ∧
    armAllBits b / 2 ^ 24 % 2 ^ 8 = b[2].toNat ∧ armAllBits b / 2 ^ 16 % 2 ^ 8 = b[3].toNat ∧
    armAllBits b / 2 ^ 8 % 2 ^ 8 = b[4].toNat ∧ armAllBits b % 2 ^ 8 = b[5].toNat := by
  have h0 := b[0].isLt
  have h1 := b[1].isLt
  have h2 := b[2].isLt
  have h3 := b[3].isLt
  have h4 := b[4].isLt
  have h5 := b[5].isLt
  unfold armAllBits
  omega

theorem decode_armAll (b : Vector Byte 6) : decode (encodeCore (.armAll b)) = some (.armAll b) := by
  obtain ⟨op, h0, h1, h2, h3, h4, h5⟩ := armAllBits_fields b
  have whole : #v[b[0], b[1], b[2], b[3], b[4], b[5]] = b := by
    ext i h
    match i with
    | 0 | 1 | 2 | 3 | 4 | 5 => rfl
  refine (decodeReq_armAll op).trans ?_
  rw [ofNat_eq_byte h0, ofNat_eq_byte h1, ofNat_eq_byte h2, ofNat_eq_byte h3, ofNat_eq_byte h4, ofNat_eq_byte h5, whole]

/-- Every well-formed instruction that is no call is read back from its word (R60 to R68). -/
theorem decode_encodeCore {i : Instr} (wellFormed : i.wellFormed = true) (notCall : i.isCall = false) :
    decode (encodeCore i) = some i := by
  cases i with
  | cmdAddr a => revert a; decide
  | cmdDispCtrl p b => revert p b; decide
  | payload v =>
    rw [encodeCore, decode_wire8, decodeWire, BitVec.ofNat_toNat, BitVec.setWidth_eq]
  | tBit b => revert b; decide
  | tClkhi t => revert t; decide
  | tWrap t => revert t; decide
  | wStop st m =>
    rw [encodeCore, decode_bound6 _ (Laws.EncodeFits.selector_lt st m true)]
    simp only [decodeBound, boundSelector_div_eight, boundSelector_div_two_mod_four, boundSelector_mod_two,
      stateOfCode_code, methodOfCode_code]
    rfl
  | wDataToAddr m => exact decode_boundSelector .sendingDataCmd m true 0
  | wAddrToPayload m => exact decode_boundSelector .sendingAddressCmd m false 0
  | seqFault st m stop =>
    rw [encodeCore, decode_boundSelector, boundaryRow_five ((Bool.not_eq_true' _).mp wellFormed)]
  | armCtrl on level => revert on level; decide
  | armAll b => exact decode_armAll b
  | armDigit p v => exact decode_armDigit (of_decide_eq_true wellFormed) v
  | reqReserved => cases wellFormed
  | cmdDataFixed | cmdDataAuto | tStart | tAck | tTail | wSingleDone | wSixNext | wSixLast | wSixDone | wCtrlDone => rfl
  | _ => cases notCall

theorem expand_of_not_call {i : Instr} (notCall : i.isCall = false) (on : Bool) (level : BitVec 3) :
    i.expand on level = i := by
  cases i with
  | setDigit | clearAll | setPower | setBrightness | setInteger | setFloat => cases notCall
  | _ => rfl

/-! The calls whose expansion turns on their operands (R73). -/

theorem expand_setDigit {p : Int} {v : Byte} (wellFormed : (Instr.setDigit p v).wellFormed = true) (on : Bool)
    (level : BitVec 3) : (Instr.setDigit p v).expand on level = .armDigit p.toNat v ∧ p.toNat ≤ 7 := by
  simp only [Instr.wellFormed, Bool.and_eq_true, decide_eq_true_eq] at wellFormed
  exact ⟨if_pos wellFormed.1, by omega⟩

theorem expand_setInteger {n : Int} (wellFormed : (Instr.setInteger n).wellFormed = true) (on : Bool)
    (level : BitVec 3) : ∃ b, (Instr.setInteger n).expand on level = .armAll b := by
  simp only [Instr.wellFormed, Bool.and_eq_true, decide_eq_true_eq] at wellFormed
  have covered : coveredInteger n = some n.toNat := if_pos wellFormed
  exact ⟨formatInteger n.toNat, by simp only [Instr.expand, covered]⟩

theorem expand_setFloat {q : FloatArg} {k : Nat} (wellFormed : (Instr.setFloat q k).wellFormed = true) (on : Bool)
    (level : BitVec 3) : ∃ b, (Instr.setFloat q k).expand on level = .armAll b := by
  obtain ⟨⟨value, point⟩, covered⟩ := Option.isSome_iff_exists.mp ((coveredFloat_isSome q k).trans wellFormed)
  exact ⟨formatFloat value point, by simp only [Instr.expand, covered]⟩

/-- A well-formed call expands to a well-formed arming operation (R73). -/
theorem expand_of_call {i : Instr} (wellFormed : i.wellFormed = true) (call : i.isCall = true) (on : Bool)
    (level : BitVec 3) :
    (i.expand on level).wellFormed = true ∧ (i.expand on level).isCall = false ∧
    (i.expand on level).isRequest = true := by
  cases i with
  | setDigit p v =>
    obtain ⟨expanded, atMost⟩ := expand_setDigit wellFormed on level
    rw [expanded]
    exact ⟨decide_eq_true atMost, rfl, rfl⟩
  | clearAll | setPower | setBrightness => exact ⟨rfl, rfl, rfl⟩
  | setInteger n =>
    obtain ⟨b, expanded⟩ := expand_setInteger wellFormed on level
    rw [expanded]
    exact ⟨rfl, rfl, rfl⟩
  | setFloat q k =>
    obtain ⟨b, expanded⟩ := expand_setFloat wellFormed on level
    rw [expanded]
    exact ⟨rfl, rfl, rfl⟩
  | _ => cases call

/-- Settles O5: format by format for the instructions that are no call; a call expands to one of those. -/
theorem decodeOfEncodeGivesTheInstruction : Obligations.DecodeOfEncodeGivesTheInstruction := by
  intro on level i wellFormed
  cases call : i.isCall with
  | false =>
    have same := expand_of_not_call call on level
    exact ⟨by rw [encode, same, decode_encodeCore wellFormed call], fun _ => same, nofun⟩
  | true =>
    obtain ⟨stillWellFormed, notCall, request⟩ := expand_of_call wellFormed call on level
    exact ⟨decode_encodeCore stillWellFormed notCall, nofun, fun _ => ⟨notCall, request⟩⟩

/-! ### From the word to its instruction and back -/

/-- The instruction i has the word w for its own: its bits and its width, of which no bit is lost. -/
structure WordOf (i : Instr) (w : CodeWord) : Prop where
  bits : (encodeCore i).bits = w.bits
  width : (encodeCore i).width = w.width
  fits : w.bits < 2 ^ w.width
  notCall : i.isCall = false
  wellFormed : i.wellFormed = true ∨ i = .reqReserved

/-- A flag that stands for an odd number is that number's lowest bit. -/
theorem toNat_decide_odd (k : Nat) : (decide (k % 2 = 1)).toNat = k % 2 := by
  rcases Nat.mod_two_eq_zero_or_one k with even | odd
  · rw [even]; rfl
  · rw [odd]; rfl

/-- The instruction i is well-formed, no call, and written as the word w. -/
structure EncodesAs (i : Instr) (w : CodeWord) : Prop where
  word : encodeCore i = w
  notCall : i.isCall = false
  wellFormed : i.wellFormed = true

theorem EncodesAs.wordOf {i : Instr} {w : CodeWord} (encodes : EncodesAs i w) (fits : w.bits < 2 ^ w.width) :
    WordOf i w where
  bits := congrArg CodeWord.bits encodes.word
  width := congrArg CodeWord.width encodes.word
  fits := fits
  notCall := encodes.notCall
  wellFormed := .inl encodes.wellFormed

/-- A byte read as a row of its window is that row's own word (R62 to R65). -/
theorem encodeCore_of_decodeWire {st : EngineState} {B : Byte} {i : Instr} (read : decodeWire st B.toNat = some i) :
    EncodesAs i ⟨.wire8 st, 8, B.toNat⟩ := by
  cases st with
  | ready => cases read
  | sendingDataCmd =>
    simp only [decodeWire] at read
    split at read
    case isTrue fixed => cases read; exact ⟨by rw [fixed]; rfl, rfl, rfl⟩
    split at read
    case isTrue auto => cases read; exact ⟨by rw [auto]; rfl, rfl, rfl⟩
    case isFalse => cases read
  | sendingAddressCmd =>
    simp only [decodeWire] at read
    split at read
    case isTrue address =>
      cases read
      have low : (BitVec.ofNat 3 (B.toNat % 8)).toNat = B.toNat % 8 := Nat.mod_eq_of_lt (by omega)
      have whole : 0xC0 + B.toNat % 8 = B.toNat := by omega
      exact ⟨by rw [encodeCore, low, whole], rfl, decide_eq_true (by rw [low]; exact address.2)⟩
    case isFalse => cases read
  | sendingDisplayCtrlCmd =>
    simp only [decodeWire] at read
    split at read
    case isTrue control =>
      cases read
      have low : (BitVec.ofNat 3 (B.toNat % 8)).toNat = B.toNat % 8 := Nat.mod_eq_of_lt (by omega)
      have whole : 0x80 + (decide (B.toNat / 8 % 2 = 1)).toNat * 8 + B.toNat % 8 = B.toNat := by
        rw [toNat_decide_odd]; omega
      exact ⟨by rw [encodeCore, low, whole], rfl, rfl⟩
    case isFalse => cases read
  | sendingPayloadBytes =>
    cases read
    exact ⟨by rw [encodeCore, BitVec.ofNat_toNat, BitVec.setWidth_eq], rfl, rfl⟩

/-- A row of format WIRE8 stands for the byte that is its word (R62 to R65). -/
theorem wireByte_of_encodeCore {i : Instr} {st : EngineState} {n : Nat} (word : encodeCore i = ⟨.wire8 st, 8, n⟩) :
    wireByte i = some (BitVec.ofNat 8 n) := by
  cases i with
  | cmdDataFixed | cmdDataAuto => cases word; rfl
  | cmdAddr a => cases word; revert a; decide
  | cmdDispCtrl p b => cases word; revert p b; decide
  | payload v => cases word; rw [wireByte, BitVec.ofNat_toNat, BitVec.setWidth_eq]
  | _ => cases word

theorem wordOf_decodeTick {place : TickPlace} {n : Nat} {i : Instr} (fits : n < 2 ^ 5)
    (read : decodeTick place n = some i) : WordOf i ⟨.tick5 place, 5, n⟩ := by
  cases place with
  | startPrefix =>
    simp only [decodeTick] at read
    split at read
    case isTrue zero => cases read; exact ⟨zero.symm, rfl, fits, rfl, .inl rfl⟩
    case isFalse => cases read
  | cell =>
    simp only [decodeTick] at read
    split at read
    case isTrue => cases read
    split at read
    case isTrue odd =>
      cases read
      have half : (BitVec.ofNat 4 (n / 2)).toNat = n / 2 := Nat.mod_eq_of_lt (by omega)
      have whole : n / 2 * 2 + 1 = n := by omega
      exact ⟨by rw [encodeCore, half, whole], rfl, fits, rfl, .inl (decide_eq_true (by rw [half]; omega))⟩
    split at read
    case isTrue data =>
      cases read
      have half : (BitVec.ofNat 3 (n / 2)).toNat = n / 2 := Nat.mod_eq_of_lt (by omega)
      have whole : n / 2 * 2 = n := by omega
      exact ⟨by rw [encodeCore, half, whole], rfl, fits, rfl, .inl rfl⟩
    split at read
    case isTrue ack => cases read; exact ⟨ack.symm, rfl, fits, rfl, .inl rfl⟩
    case isFalse =>
      cases read
      have tail : 0x12 = n := by omega
      exact ⟨tail, rfl, fits, rfl, .inl rfl⟩
  | wrapSuffix =>
    simp only [decodeTick] at read
    split at read
    case isTrue => cases read
    case isFalse inWindow =>
      cases read
      have whole : (BitVec.ofNat 5 n).toNat = n := Nat.mod_eq_of_lt fits
      exact ⟨whole, rfl, fits, rfl, .inl (decide_eq_true (by rw [whole]; omega))⟩

theorem stateCode_of_ofCode {k : Nat} {st : EngineState} (read : EngineState.ofCode k = some st) : st.code = k := by
  unfold EngineState.ofCode at read
  split at read <;> cases read <;> rfl

theorem methodCode_of_ofCode {k : Nat} {m : Method} (read : Method.ofCode k = some m) : m.code = k := by
  unfold Method.ofCode at read
  split at read <;> cases read <;> rfl

/-- Every row of the table is written with the selector it is read from, at any cursor (R67). -/
theorem wordOf_boundaryRow (st : EngineState) (m : Method) (stop : Bool) (c : Fin 6) :
    WordOf (boundaryRow st m stop c) ⟨.bound6 (.row c), 6, boundSelector st m stop⟩ := by
  have fits := Laws.EncodeFits.selector_lt st m stop
  unfold boundaryRow
  split
  case h_4 =>
    split
    · exact ⟨rfl, rfl, fits, rfl, .inl rfl⟩
    split
    · exact ⟨rfl, rfl, fits, rfl, .inl rfl⟩
    · exact ⟨rfl, rfl, fits, rfl, .inl rfl⟩
  case h_7 data address single sixNext sixDone control =>
    have noRow : hasRowForEveryCursor st m stop = false := by
      unfold hasRowForEveryCursor
      split
      case h_1 => exact Bool.eq_false_iff.mpr (data rfl)
      case h_2 => exact congrArg (!·) ((Bool.not_eq_false _).mp (address rfl))
      case h_3 => exact Bool.eq_false_iff.mpr (single rfl rfl)
      case h_4 => exact Bool.eq_false_iff.mpr (sixDone rfl rfl)
      case h_6 => exact Bool.eq_false_iff.mpr (control rfl rfl)
      all_goals rfl
    exact ⟨rfl, rfl, fits, rfl, .inl ((Bool.not_eq_true' _).mpr noRow)⟩
  all_goals exact ⟨rfl, rfl, fits, rfl, .inl rfl⟩

theorem wordOf_decodeBound {place : BoundPlace} {n : Nat} {i : Instr} (fits : n < 2 ^ 6)
    (read : decodeBound place n = some i) : WordOf i ⟨.bound6 place, 6, n⟩ := by
  unfold decodeBound at read
  split at read
  case h_1 st m stateRead methodRead =>
    have stateCode := stateCode_of_ofCode stateRead
    have methodCode := methodCode_of_ofCode methodRead
    have whole : boundSelector st m (decide (n % 2 = 1)) = n := by
      rw [boundSelector, stateCode, methodCode, toNat_decide_odd]; omega
    cases place with
    | stopPrefix =>
      simp only at read
      split at read
      case isTrue odd =>
        cases read
        rw [decide_eq_true odd] at whole
        exact ⟨whole, rfl, fits, rfl, .inl rfl⟩
      case isFalse => cases read
    | row c =>
      cases read
      have word := wordOf_boundaryRow st m (decide (n % 2 = 1)) c
      rwa [whole] at word
  case h_2 => cases read

theorem wordOf_decodeReq {width n : Nat} {i : Instr} (read : decodeReq width n = some i) :
    WordOf i ⟨.req, width, n⟩ := by
  unfold decodeReq at read
  split at read
  case isTrue control =>
    obtain ⟨rfl, op⟩ := control
    cases read
    have low : (BitVec.ofNat 3 (n % 8)).toNat = n % 8 := Nat.mod_eq_of_lt (by omega)
    have whole : (decide (n / 8 % 2 = 1)).toNat * 8 + n % 8 = n := by rw [toNat_decide_odd]; omega
    exact ⟨by rw [encodeCore, low, whole], rfl, by simp only; omega, rfl, .inl rfl⟩
  split at read
  case isTrue all =>
    obtain ⟨rfl, op⟩ := all
    cases read
    refine ⟨?_, rfl, by simp only; omega, rfl, .inl rfl⟩
    simp only [encodeCore, armAllBits, Vector.getElem_mk, List.getElem_toArray, List.getElem_cons_zero,
      List.getElem_cons_succ, BitVec.toNat_ofNat]
    omega
  split at read
  case isTrue digit =>
    obtain ⟨rfl, op⟩ := digit
    cases read
    have low : (BitVec.ofNat 8 n).toNat = n % 2 ^ 8 := rfl
    have whole : 2 ^ 12 + n / 2 ^ 8 % 8 % 8 * 2 ^ 8 + n % 2 ^ 8 = n := by omega
    exact ⟨by rw [encodeCore, low, whole], rfl, by simp only; omega, rfl, .inl (decide_eq_true (by omega))⟩
  split at read
  case isTrue reserved =>
    obtain ⟨rfl, rfl⟩ := reserved
    cases read
    exact ⟨rfl, rfl, by decide, rfl, .inr rfl⟩
  case isFalse => cases read

/-- A word that is read is the word of the instruction it is read as. -/
theorem wordOf_decode {w : CodeWord} {i : Instr} (read : decode w = some i) : WordOf i w := by
  obtain ⟨format, width, bits⟩ := w
  cases format with
  | wire8 st =>
    obtain ⟨⟨rfl, fits⟩, read⟩ := Option.ite_none_right_eq_some.mp read
    obtain ⟨B, rfl⟩ : ∃ B : Byte, B.toNat = bits := ⟨BitVec.ofNat 8 bits, Nat.mod_eq_of_lt fits⟩
    exact (encodeCore_of_decodeWire read).wordOf fits
  | tick5 place =>
    obtain ⟨⟨rfl, fits⟩, read⟩ := Option.ite_none_right_eq_some.mp read
    exact wordOf_decodeTick fits read
  | bound6 place =>
    obtain ⟨⟨rfl, fits⟩, read⟩ := Option.ite_none_right_eq_some.mp read
    exact wordOf_decodeBound fits read
  | req => exact wordOf_decodeReq read

/-- Settles O6: by the tables of the decoder, each entry of which names the word it was read from. -/
theorem encodeOfDecodeGivesTheWord : Obligations.EncodeOfDecodeGivesTheWord := by
  intro on level w i read
  have word := wordOf_decode read
  rw [encode, expand_of_not_call word.notCall]
  exact ⟨word.bits, word.width, word.fits, word.notCall, word.wellFormed⟩

/-! ### The opcode table -/

/-- A mask above k bits reads what stands above them. -/
theorem and_shiftLeft (n m k : Nat) : n &&& (m <<< k) = ((n >>> k) &&& m) <<< k := by
  apply Nat.eq_of_testBit_eq
  intro i
  simp only [Nat.testBit_and, Nat.testBit_shiftLeft, Nat.testBit_shiftRight]
  by_cases below : k ≤ i
  · simp [below]
  · simp [below]

/-- A mask of the two top bits reads the op of a request descriptor (R68). -/
theorem and_op {n op k : Nat} (top : n / 2 ^ k = op) (isOp : op &&& 3 = op) : n &&& (3 <<< k) = op <<< k := by
  rw [and_shiftLeft, Nat.shiftRight_eq_div_pow, top, isOp]

/-- No well-formed instruction has a bit above its width. -/
theorem encodeCore_fits {i : Instr} (wellFormed : i.wellFormed = true) (notCall : i.isCall = false) :
    (encodeCore i).bits < 2 ^ (encodeCore i).width :=
  (wordOf_decode (decode_encodeCore wellFormed notCall)).fits

theorem selector_stop (st : EngineState) (m : Method) : boundSelector st m true &&& 0x01 = 0x01 := by
  cases st <;> cases m <;> rfl

theorem armDigit_op (p : Nat) (v : Byte) : (encodeCore (.armDigit p v)).bits &&& 0x1800 = 0x1000 := by
  have small := v.isLt
  exact and_op (k := 11) (op := 2) (by simp only [encodeCore]; omega) rfl

theorem armAll_op (b : Vector Byte 6) : (encodeCore (.armAll b)).bits &&& 0x3000000000000 = 0x1000000000000 :=
  and_op (k := 48) (op := 1) (armAllBits_fields b).1 rfl

theorem armCtrl_op (on : Bool) (level : BitVec 3) : (encodeCore (.armCtrl on level)).bits &&& 0x30 = 0x00 := by
  revert on level; decide

/-- Every word of an instruction that is no call has its row's width and match (R61 to R68). -/
theorem encodeCore_row (i : Instr) (notCall : i.isCall = false) :
    (encodeCore i).width = i.tableRow.width ∧ (encodeCore i).bits &&& i.tableRow.mask = i.tableRow.pattern := by
  cases i with
  | cmdAddr a => exact ⟨rfl, by revert a; decide⟩
  | cmdDispCtrl p b => exact ⟨rfl, by revert p b; decide⟩
  | payload v => exact ⟨rfl, Nat.and_zero _⟩
  | tBit b => exact ⟨rfl, by revert b; decide⟩
  | tClkhi t => exact ⟨rfl, by revert t; decide⟩
  | tWrap t => exact ⟨rfl, Nat.and_zero _⟩
  | wStop st m => exact ⟨rfl, selector_stop st m⟩
  | wDataToAddr m | wAddrToPayload m => cases m <;> exact ⟨rfl, rfl⟩
  | seqFault st m stop => exact ⟨rfl, Nat.and_zero _⟩
  | armCtrl on level => exact ⟨rfl, armCtrl_op on level⟩
  | armAll b => exact ⟨rfl, armAll_op b⟩
  | armDigit p v => exact ⟨rfl, armDigit_op p v⟩
  | reqReserved | cmdDataFixed | cmdDataAuto | tStart | tAck | tTail => exact ⟨rfl, rfl⟩
  | wSingleDone | wSixNext | wSixLast | wSixDone | wCtrlDone => exact ⟨rfl, rfl⟩
  | _ => cases notCall

/-- The word of a well-formed call has the call's own row's width and match, which are those of its expansion (R73). -/
theorem encode_call_row {i : Instr} (wellFormed : i.wellFormed = true) (call : i.isCall = true) (on : Bool)
    (level : BitVec 3) :
    (encode on level i).width = i.tableRow.width ∧
    (encode on level i).bits &&& i.tableRow.mask = i.tableRow.pattern := by
  cases i with
  | setDigit p v =>
    rw [encode, (expand_setDigit wellFormed on level).1]
    exact ⟨rfl, armDigit_op _ v⟩
  | clearAll => exact ⟨rfl, (by decide : armAllBits zeroBytes &&& 0x3FFFFFFFFFFFF = 0x1000000000000)⟩
  | setPower on => exact ⟨rfl, armCtrl_op on level⟩
  | setBrightness level => exact ⟨rfl, armCtrl_op on level⟩
  | setInteger n =>
    obtain ⟨b, expanded⟩ := expand_setInteger wellFormed on level
    rw [encode, expanded]
    exact ⟨rfl, armAll_op b⟩
  | setFloat q k =>
    obtain ⟨b, expanded⟩ := expand_setFloat wellFormed on level
    rw [encode, expanded]
    exact ⟨rfl, armAll_op b⟩
  | _ => cases call

/-- Settles O7: each row's mask keeps the bits its operands do not reach; a call's row is that of its expansion. -/
theorem encodedWordMatchesItsTableRow : Obligations.EncodedWordMatchesItsTableRow := by
  intro on level i wellFormed
  cases call : i.isCall with
  | false =>
    rw [encode, expand_of_not_call call]
    obtain ⟨width, pattern⟩ := encodeCore_row i call
    exact ⟨width, pattern, width ▸ encodeCore_fits wellFormed call⟩
  | true =>
    obtain ⟨width, pattern⟩ := encode_call_row wellFormed call on level
    obtain ⟨stillWellFormed, notCall, _⟩ := expand_of_call wellFormed call on level
    exact ⟨width, pattern, width ▸ encodeCore_fits stillWellFormed notCall⟩

/-! ### Words that are no instruction -/

/-- Settles O8: twelve closed words. -/
theorem specWordsDecode : Obligations.SpecWordsDecode := by
  unfold Obligations.SpecWordsDecode
  decide

theorem decodeTick_eq_none (place : TickPlace) {n : Nat} (outside : 18 < n) : decodeTick place n = none := by
  cases place with
  | startPrefix => exact if_neg (by omega)
  | cell | wrapSuffix => exact if_pos outside

theorem stateOfCode_eq_none {k : Nat} (outside : 5 ≤ k) : EngineState.ofCode k = none := by
  unfold EngineState.ofCode
  split
  case h_6 => rfl
  all_goals omega

theorem decodeBound_eq_none (place : BoundPlace) {n : Nat} (outside : 40 ≤ n ∨ n / 2 % 4 = 3) :
    decodeBound place n = none := by
  unfold decodeBound
  rcases outside with noState | noMethod
  · rw [stateOfCode_eq_none (by omega)]
  · rw [noMethod]
    cases EngineState.ofCode (n / 8) <;> rfl

/-- Settles O9: each class lies outside what its format's table reads. -/
theorem reservedEncodingsAreRefused : Obligations.ReservedEncodingsAreRefused := by
  refine ⟨fun n notFixed notAuto => ?_, fun n outside => ?_, fun n outside => ?_, fun place n outside => ?_,
    fun place n outside => ?_, fun n op => ?_⟩
  · simp only [decode, decodeWire, if_neg notFixed, if_neg notAuto, ite_self]
  · have noAddress : ¬ (n / 8 = 24 ∧ n % 8 ≤ 5) := by omega
    simp only [decode, decodeWire, if_neg noAddress, ite_self]
  · have noControl : ¬ n / 16 = 8 := by omega
    simp only [decode, decodeWire, if_neg noControl, ite_self]
  · simp only [decode, decodeTick_eq_none place outside, ite_self]
  · simp only [decode, decodeBound_eq_none place outside, ite_self]
  · simp only [decode, decodeReq]
    rw [if_neg (by omega), if_neg (by omega), if_neg (by omega), if_neg (by omega)]

end Sys2Proof.Proofs.Encoding
end

section
/-! PROOFS. The TICK step (spec 41_tick_sequencer.md section 1): a delivered tick shifts the current byte, whatever row
that byte is read as, and what such a step can do is said once. -/

namespace Sys2Proof.Proofs.TickStep

open Sys2Proof Sys2Proof.Machine Sys2Proof.Proofs.Encoding

/-! ### A wire byte's meaning is the TICK step of that byte (log entry 8) -/

/-- Every row of format WIRE8 shifts the byte it stands for (R61 to R65). -/
theorem exec_wireByte {i : Instr} {B : Byte} (byte : wireByte i = some B) (s : State) : exec i s = tickStep B s := by
  cases i with
  | cmdDataFixed | cmdDataAuto | cmdAddr | cmdDispCtrl | payload => cases byte; rfl
  | _ => cases byte

/-- A byte read as a row of its window is the byte that row stands for. -/
theorem wireByte_of_decode {st : EngineState} {B : Byte} {i : Instr}
    (read : decode ⟨.wire8 st, 8, B.toNat⟩ = some i) : wireByte i = some B := by
  rw [decode_wire8] at read
  rw [wireByte_of_encodeCore (encodeCore_of_decodeWire read).word, BitVec.ofNat_toNat, BitVec.setWidth_eq]

/-! ### The step of a delivered tick -/

theorem turn_tick {s : State} (runs : tickRuns s = true) : turn s = .tick := if_pos runs

theorem tickEnable_of_runs {s : State} (runs : tickRuns s = true) : s.tickEnable = true := by
  simp only [tickRuns, Bool.and_eq_true] at runs
  exact runs.1.1

/-- The state selects a byte exactly when it is not `Ready` (R101). -/
theorem currentByte_eq_none_iff (s : State) : currentByte s = none ↔ s.state = .ready := by
  unfold currentByte
  split <;> simp [*]

theorem exists_currentByte {s : State} (busy : s.state ≠ .ready) : ∃ B, currentByte s = some B :=
  Option.ne_none_iff_exists'.mp (mt (currentByte_eq_none_iff s).mp busy)

/-- The current byte is read from the state, the cursor and the buffers. -/
theorem currentByte_of_sameButLines {s t : State} (same : SameButLines s t) : currentByte t = currentByte s := by
  rw [same]; rfl

/-- A delivered tick shifts the current byte, whether that byte is a row of its window or not (R100, R101). -/
theorem step_tick {s : State} {B : Byte} (runs : tickRuns s = true) (byte : currentByte s = some B) :
    step s = tickStep B s := by
  unfold step
  rw [turn_tick runs]
  simp only [fetchByte, byte]
  cases read : decode ⟨.wire8 s.state, 8, B.toNat⟩ with
  | none => simp only [tickRaw, byte]
  | some i => exact exec_wireByte (wireByte_of_decode read) s

/-- In `Ready` a tick finds no byte (R101, U13). -/
theorem step_tick_ready {s : State} (runs : tickRuns s = true) (ready : s.state = .ready) :
    step s = .refused .noCurrentByte := by
  have none := (currentByte_eq_none_iff s).mpr ready
  unfold step
  rw [turn_tick runs]
  simp only [fetchByte, tickRaw, none]

/-- The lines and the trace a tick leaves before the counter advances. -/
theorem halfCell_startPrefix_sameButLines (B : Byte) (s : State) :
    SameButLines s (halfCell B s.tick (startPrefix s)) :=
  (startPrefix_sameButLines s).trans (halfCell_sameButLines B s.tick (startPrefix s))

/-- The state a window's boundary row is chosen and run in: the counter wrapped, and the stop condition if one was asked
for (R107, R120). -/
def boundaryEntry (s : State) : State :=
  if s.stopPending then stopCondition (s.setTick 0) else s.setTick 0

theorem boundaryEntry_of_stop {s : State} (stop : s.stopPending = true) :
    boundaryEntry s = stopCondition (s.setTick 0) :=
  if_pos stop

theorem boundaryEntry_of_noStop {s : State} (noStop : s.stopPending = false) : boundaryEntry s = s.setTick 0 :=
  if_neg (Bool.eq_false_iff.mp noStop)

theorem boundaryEntry_sameButLines (s : State) : SameButLines (s.setTick 0) (boundaryEntry s) := by
  unfold boundaryEntry
  split
  · exact stopCondition_sameButLines _
  · exact SameButLines.refl _

/-- After tick 18 the counter wraps and the row runs on the boundary's entry state. -/
theorem wrapAfter_last_eq (s : State) : wrapAfter 18 s = boundaryCase s.stopPending (boundaryEntry s) := by
  rw [wrapAfter_last, windowBoundary_eq]; rfl

/-- From low lines the boundary's entry state has the lines at the stop flag. -/
theorem boundaryEntry_lines {s : State} (low : s.linesAre false false) :
    (boundaryEntry s).linesAre s.stopPending s.stopPending := by
  unfold boundaryEntry
  split
  case isTrue stop => rw [stop]; exact ⟨rfl, rfl⟩
  case isFalse noStop => rw [Bool.eq_false_iff.mpr noStop]; exact low

/-- On ticks 0..17 the lines move and the counter advances (R107). -/
theorem tickStep_below {s : State} (B : Byte) (enabled : s.tickEnable = true) (busy : s.state ≠ .ready)
    (below : s.tick.val + 1 < 19) :
    ∃ t, tickStep B s = .next t ∧ SameButLines (s.setTick ⟨s.tick.val + 1, below⟩) t := by
  have same := halfCell_startPrefix_sameButLines B s
  rw [tickStep_runs B enabled busy, wrapAfter_below below]
  exact ⟨_, rfl, by rw [same]; rfl⟩

/-- On tick 18 a boundary row runs, on a state whose lines stand at the stop flag (R106, R107, R120). -/
theorem tickStep_last {s : State} (B : Byte) (enabled : s.tickEnable = true) (busy : s.state ≠ .ready)
    (last : s.tick = 18) :
    ∃ e, tickStep B s = boundaryCase s.stopPending e ∧ SameButLines (s.setTick 0) e ∧
      e.linesAre s.stopPending s.stopPending := by
  have same := halfCell_startPrefix_sameButLines B s
  have low : (halfCell B s.tick (startPrefix s)).linesAre false false := by rw [last]; exact ⟨rfl, rfl⟩
  have stop : (halfCell B s.tick (startPrefix s)).stopPending = s.stopPending := by rw [same]
  have wrapped : SameButLines (s.setTick 0) ((halfCell B s.tick (startPrefix s)).setTick 0) := by rw [same]; rfl
  refine ⟨boundaryEntry (halfCell B s.tick (startPrefix s)), ?_, wrapped.trans (boundaryEntry_sameButLines _),
    stop ▸ boundaryEntry_lines low⟩
  rw [tickStep_runs B enabled busy, ← stop, ← wrapAfter_last_eq, last]

/-- What a delivered tick can do, guards included. -/
theorem tick_step_cases {s t : State} (runs : tickRuns s = true) (next : step s = .next t) :
    s.state ≠ .ready ∧
    ((∃ below : s.tick.val + 1 < 19, SameButLines (s.setTick ⟨s.tick.val + 1, below⟩) t) ∨
     (s.tick = 18 ∧ ∃ e, SameButLines (s.setTick 0) e ∧ e.linesAre s.stopPending s.stopPending ∧
       boundaryCase s.stopPending e = .next t)) := by
  by_cases ready : s.state = .ready
  · rw [step_tick_ready runs ready] at next; cases next
  obtain ⟨B, byte⟩ := exists_currentByte ready
  rw [step_tick runs byte] at next
  refine ⟨ready, ?_⟩
  by_cases below : s.tick.val + 1 < 19
  · obtain ⟨u, shifted, same⟩ := tickStep_below B (tickEnable_of_runs runs) ready below
    rw [shifted] at next
    cases next
    exact .inl ⟨below, same⟩
  · have last : s.tick = 18 := by omega
    obtain ⟨e, wrapped, same, lines⟩ := tickStep_last B (tickEnable_of_runs runs) ready last
    exact .inr ⟨last, e, same, lines, wrapped ▸ next⟩

end Sys2Proof.Proofs.TickStep
end

section
/-! PROOFS. The nineteen ticks of a window (spec 41_tick_sequencer.md section 3): the levels after each tick, the level
trace they leave, and what a receiver reads off it. -/

namespace Sys2Proof.Proofs.Window

open Sys2Proof Sys2Proof.Machine Sys2Proof.Proofs.TickStep

/-! ### The waveform tick by tick -/

/-- The lines a half cell finds: low before tick 0 (after the start condition, or between the bytes of a frame), and
then what the tick before left. -/
def linesBefore (B : Byte) : Nat → LinePair
  | 0 => ⟨false, false⟩
  | k + 1 => waveform B false k

/-- Before tick 18 a stop that is asked for does not show (R109). -/
theorem waveform_stop {k : Nat} (below : k < 18) (B : Byte) (stop : Bool) : waveform B stop k = waveform B false k := by
  simp only [waveform, if_neg (Nat.ne_of_lt below)]

/-- Even ticks leave the clock low. -/
theorem waveform_even_clk {k : Nat} (even : k % 2 ≠ 1) (B : Byte) : (waveform B false k).clk = false := by
  unfold waveform
  split
  · rfl
  split
  case isTrue last => exact absurd (by rw [last]) even
  split
  · rfl
  · exact decide_eq_false even

/-- An odd tick finds the clock low. -/
theorem linesBefore_odd_clk {k : Nat} (odd : k % 2 = 1) (B : Byte) : (linesBefore B k).clk = false := by
  cases k with
  | zero => rfl
  | succ k => exact waveform_even_clk (by omega) B

/-- The data ticks leave the clock low and the bit of their cell on the data line (R103). -/
theorem waveform_data {k : Nat} (even : k % 2 ≠ 1) (data : k < 16) (B : Byte) :
    waveform B false k = ⟨false, bitOf B (k / 2)⟩ := by
  rw [waveform, if_neg (by omega), if_neg (by omega), if_neg (by omega), decide_eq_false even]

/-- An odd tick raises the clock over the data level it finds (R104). -/
theorem waveform_odd {k : Nat} (odd : k % 2 = 1) (below : k < 19) (B : Byte) :
    waveform B false k = ⟨true, (linesBefore B k).dio⟩ := by
  obtain ⟨j, rfl⟩ : ∃ j, k = 2 * j + 1 := ⟨k / 2, by omega⟩
  by_cases last : j = 8
  · subst last; rfl
  · have halves : (2 * j + 1) / 2 = 2 * j / 2 := by omega
    rw [linesBefore, waveform_data (k := 2 * j) (by omega) (by omega), waveform, if_neg (by omega), if_neg (by omega),
      if_neg (by omega), halves, decide_eq_true odd]

/-! ### The levels a window adds to the trace -/

/-- The pair between the two pin writes of tick k: the clock is written, the data line is still as found. -/
def betweenWrites (B : Byte) (k : Nat) : LinePair := ⟨decide (k % 2 = 1), (linesBefore B k).dio⟩

/-- What tick k adds to the level trace: the changes of its two pin writes, the clock first (D7). -/
def cellLevels (B : Byte) (k : Nat) : List LinePair :=
  traceOf (linesBefore B k) (betweenWrites B k) ++ traceOf (betweenWrites B k) (waveform B false k)

/-- What the first k ticks add to the level trace, from low lines. -/
def shiftLevels (B : Byte) : Nat → List LinePair
  | 0 => []
  | k + 1 => shiftLevels B k ++ cellLevels B k

/-- What the start condition adds, from the idle bus (D6). -/
def startLevels (start : Bool) : List LinePair := if start then [⟨true, false⟩, ⟨false, false⟩] else []

/-- What the stop condition adds, from low lines (R121). -/
def stopLevels (stop : Bool) : List LinePair := if stop then [⟨true, false⟩, ⟨true, true⟩] else []

/-- What a whole window adds to the level trace. -/
def windowLevels (start : Bool) (B : Byte) (stop : Bool) : List LinePair :=
  startLevels start ++ shiftLevels B 19 ++ stopLevels stop

/-- The half cell of tick t leaves the levels of the waveform, whatever it finds on an even tick. -/
theorem halfCell_lines {B : Byte} {t : Fin 19} {s : State} (found : t.val % 2 = 1 → s.lines = linesBefore B t.val) :
    (halfCell B t s).lines = waveform B false t.val := by
  unfold halfCell
  split
  case isTrue odd => rw [clockHigh_lines, waveform_odd odd t.isLt, ← found odd, State.lines_dio]
  case isFalse even =>
    split
    case isTrue data => rw [dataCell_lines, waveform_data even data]
    case isFalse notData =>
      split
      case isTrue ack => rw [ackCell_lines, ack]; rfl
      case isFalse notAck =>
        have last : t.val = 18 := by omega
        rw [tailCell_lines, last]; rfl

/-- Two pin writes, clock first, add the changes of the one and then of the other. -/
theorem clkThenDio_levelTrace (s : State) (clk dio : Level) :
    ((s.pinWrite .clk clk).pinWrite .dio dio).levelTrace =
      s.levelTrace ++ (traceOf s.lines ⟨clk, s.lines.dio⟩ ++ traceOf ⟨clk, s.lines.dio⟩ ⟨clk, dio⟩) := by
  rw [pinWrite_levelTrace, pinWrite_levelTrace, pinWrite_lines, LinePair.write_dio, LinePair.write_clk,
    List.append_assoc]

/-- The half cell of tick t adds that tick's levels to the trace. -/
theorem halfCell_levelTrace {B : Byte} {t : Fin 19} {s : State} (found : s.lines = linesBefore B t.val) :
    (halfCell B t s).levelTrace = s.levelTrace ++ cellLevels B t.val := by
  have lines := halfCell_lines (fun _ => found)
  unfold cellLevels betweenWrites
  unfold halfCell at lines ⊢
  rw [← found, ← lines]
  split
  case isTrue odd =>
    rw [clockHigh_lines, odd]
    simp [clockHigh]
  case isFalse even =>
    rw [decide_eq_false even]
    split
    · exact clkThenDio_levelTrace ..
    · split
      · exact clkThenDio_levelTrace ..
      · exact clkThenDio_levelTrace ..

/-! ### The run of a window -/

/-- At tick 0 the start condition, if asked for, leaves low lines from lines that stand at the start flag, and adds its
levels. -/
theorem startPrefix_of_tick_zero {s : State} (first : s.tick = 0)
    (entry : s.linesAre s.startPending s.startPending) :
    (startPrefix s).lines = ⟨false, false⟩ ∧
    (startPrefix s).levelTrace = s.levelTrace ++ startLevels s.startPending := by
  obtain ⟨clk, dio⟩ := entry
  unfold startPrefix
  cases start : s.startPending with
  | false =>
    rw [start] at clk dio
    simp [startLevels, State.lines, clk, dio]
  | true =>
    rw [start] at clk dio
    simp [first, startLevels, startCondition, State.lines, clk, dio, traceOf]

/-- A start condition belongs to tick 0 only (R100). -/
theorem startPrefix_of_tick_ne_zero {s : State} (later : s.tick ≠ 0) : startPrefix s = s :=
  if_neg fun both => later (Fin.ext both.1)

/-- The state t stands k ticks into the window of byte B that began in s. -/
structure MidWindow (s : State) (B : Byte) (k : Fin 19) (t : State) : Prop where
  same : SameButLines (s.setTick k) t
  lines : k ≠ 0 → t.lines = linesBefore B k.val
  trace : s.linesAre s.startPending s.startPending →
    (startPrefix t).lines = linesBefore B k.val ∧
    (startPrefix t).levelTrace = s.levelTrace ++ (startLevels s.startPending ++ shiftLevels B k.val)

theorem MidWindow.tick_eq {s t : State} {B : Byte} {k : Fin 19} (mid : MidWindow s B k t) : t.tick = k := by
  rw [mid.same]; rfl

theorem midWindow_zero {s : State} (B : Byte) (first : s.tick = 0) : MidWindow s B 0 s where
  same := by rw [← first]; rfl
  lines := fun ne => absurd rfl ne
  trace := fun entry => by
    obtain ⟨lines, trace⟩ := startPrefix_of_tick_zero first entry
    exact ⟨lines, by rw [trace]; exact (congrArg _ (List.append_nil _)).symm⟩

/-- The lines an odd tick's half cell finds. -/
theorem MidWindow.found_odd {s t : State} {B : Byte} {k : Fin 19} (mid : MidWindow s B k t) (odd : k.val % 2 = 1) :
    (startPrefix t).lines = linesBefore B k.val := by
  have later : k ≠ 0 := fun zero => by rw [zero] at odd; cases odd
  rw [startPrefix_of_tick_ne_zero (mid.tick_eq ▸ later), mid.lines later]

/-- A tick inside a window runs its half cell, then the counter. -/
theorem MidWindow.step_eq {s t : State} {B : Byte} {k : Fin 19} (mid : MidWindow s B k t) (runs : tickRuns s = true)
    (byte : currentByte s = some B) : step t = wrapAfter k (halfCell B k (startPrefix t)) := by
  have runsNow : tickRuns t = true := by rw [mid.same]; exact runs
  have byteNow : currentByte t = some B := by rw [mid.same]; exact byte
  have busy : t.state ≠ .ready := fun ready => by
    rw [(currentByte_eq_none_iff t).mpr ready] at byteNow; cases byteNow
  rw [step_tick runsNow byteNow, tickStep_runs B (tickEnable_of_runs runsNow) busy, mid.tick_eq]

/-- One tick more, below tick 18. -/
theorem MidWindow.succ {s t : State} {B : Byte} {k : Nat} {here : k < 19} (mid : MidWindow s B ⟨k, here⟩ t)
    (below : k + 1 < 19) :
    MidWindow s B ⟨k + 1, below⟩ ((halfCell B ⟨k, here⟩ (startPrefix t)).setTick ⟨k + 1, below⟩) where
  same := by
    have same := ((mid.same.trans (startPrefix_sameButLines t)).trans (halfCell_sameButLines B ⟨k, here⟩ _))
    rw [same]; rfl
  lines := fun _ => halfCell_lines (t := ⟨k, here⟩) fun odd => mid.found_odd odd
  trace := fun entry => by
    obtain ⟨lines, trace⟩ := mid.trace entry
    have later : (⟨k + 1, below⟩ : Fin 19) ≠ 0 := fun zero => absurd (congrArg Fin.val zero) (Nat.succ_ne_zero k)
    rw [startPrefix_of_tick_ne_zero (by exact later)]
    refine ⟨halfCell_lines fun _ => lines, ?_⟩
    rw [setTick_levelTrace, halfCell_levelTrace lines, trace]
    simp only [shiftLevels, List.append_assoc]

/-- The first k steps of a window. -/
theorem run_midWindow {s : State} {B : Byte} (runs : tickRuns s = true) (first : s.tick = 0)
    (byte : currentByte s = some B) (k : Nat) (here : k < 19) :
    ∃ t : State, core.run k s = .next t ∧ MidWindow s B ⟨k, here⟩ t := by
  induction k with
  | zero => exact ⟨s, rfl, midWindow_zero B first⟩
  | succ k ih =>
    obtain ⟨t, run, mid⟩ := ih (Nat.lt_of_succ_lt here)
    have step : step t = .next ((halfCell B ⟨k, Nat.lt_of_succ_lt here⟩ (startPrefix t)).setTick ⟨k + 1, here⟩) := by
      rw [mid.step_eq runs byte, wrapAfter_below here]
    exact ⟨_, by rw [run_add k 1 run, run_succ 0 step]; rfl, mid.succ here⟩

/-- A run of one step is that step. -/
theorem run_one (s : State) : core.run 1 s = step s := by
  have unfolded : core.step s = step s := rfl
  cases next : step s <;> simp only [Host.Core.run, unfolded, next] <;> rfl

/-- The last half cell of a window, before the counter wraps. -/
theorem MidWindow.lastCell {s t : State} {B : Byte} (mid : MidWindow s B 18 t) :
    SameButLines (s.setTick 18) (halfCell B 18 (startPrefix t)) ∧
    (s.linesAre s.startPending s.startPending → (halfCell B 18 (startPrefix t)).levelTrace =
      s.levelTrace ++ (startLevels s.startPending ++ shiftLevels B 19)) := by
  refine ⟨(mid.same.trans (startPrefix_sameButLines t)).trans (halfCell_sameButLines B 18 _), fun entry => ?_⟩
  obtain ⟨lines, trace⟩ := mid.trace entry
  rw [halfCell_levelTrace lines, trace, List.append_assoc, List.append_assoc]
  rfl

/-- The boundary's entry state has gained the stop condition's levels, from low lines. -/
theorem boundaryEntry_levelTrace {s : State} (low : s.linesAre false false) :
    (boundaryEntry s).levelTrace = s.levelTrace ++ stopLevels s.stopPending := by
  obtain ⟨clk, dio⟩ := low
  unfold boundaryEntry
  cases stop : s.stopPending with
  | false => simp [stopLevels]
  | true => simp [stopLevels, stopCondition, State.lines, clk, dio, traceOf]

/-- Nineteen steps from a window's start are the boundary's row, on a state that is the window's first one but for the
lines, which stand at the stop flag, and the trace, which has gained the window's levels. -/
theorem run_window {s : State} {B : Byte} (runs : tickRuns s = true) (first : s.tick = 0)
    (byte : currentByte s = some B) :
    ∃ e : State, core.run 19 s = boundaryCase s.stopPending e ∧ SameButLines s e ∧
      e.linesAre s.stopPending s.stopPending ∧
      (s.linesAre s.startPending s.startPending →
        e.levelTrace = s.levelTrace ++ windowLevels s.startPending B s.stopPending) := by
  obtain ⟨t, run, mid⟩ := run_midWindow runs first byte 18 (by decide)
  obtain ⟨same, trace⟩ := mid.lastCell
  have low : (halfCell B 18 (startPrefix t)).linesAre false false := ⟨rfl, rfl⟩
  have stop : (halfCell B 18 (startPrefix t)).stopPending = s.stopPending := by rw [same]; rfl
  have step : Machine.step t = boundaryCase (halfCell B 18 (startPrefix t)).stopPending
      (boundaryEntry (halfCell B 18 (startPrefix t))) := (mid.step_eq runs byte).trans (wrapAfter_last_eq _)
  have lines := boundaryEntry_lines low
  have entered := boundaryEntry_levelTrace low
  have wrapped : SameButLines s ((halfCell B 18 (startPrefix t)).setTick 0) := by rw [same, ← first]; rfl
  rw [stop] at step lines entered
  refine ⟨_, ?_, wrapped.trans (boundaryEntry_sameButLines _), lines, fun entry => ?_⟩
  · exact (run_add 18 1 run).trans ((run_one t).trans step)
  · rw [entered, trace entry, List.append_assoc, windowLevels]

/-- Settles O48: induction over the ticks; the stop flag does not show before tick 18. -/
theorem windowWaveform : Obligations.WindowWaveform := by
  intro s B k below runs first byte
  obtain ⟨t, run, mid⟩ := run_midWindow runs first byte (k + 1) (Nat.succ_lt_succ below)
  exact ⟨t, run, by rw [mid.lines nofun, waveform_stop below]; rfl, mid.same⟩

end Sys2Proof.Proofs.Window
end

section
/-! PROOFS. The rows of the window boundary (spec 42_window_boundary.md): which row a boundary runs, and at which
combinations there is one. -/

namespace Sys2Proof.Proofs.BoundaryRow

open Sys2Proof Sys2Proof.Machine Sys2Proof.Proofs.TickStep Sys2Proof.Proofs.WindowBoundary

/-! ### The boundary and the termination/advance table -/

/-- A boundary's meaning is that of the row of the termination/advance table, the fault included (R120, R130). -/
theorem boundaryCase_eq_exec (p : Bool) (s : State) :
    boundaryCase p s = exec (boundaryRow s.state s.transferMethod p s.payloadCursor) s := by
  unfold boundaryCase
  split
  case h_1 st => rw [st]; rfl
  case h_2 st => rw [st]; rfl
  case h_3 st m => rw [st, m]; rfl
  case h_4 st m =>
    simp only [st, m, boundaryRow]
    split
    · rfl
    · split <;> rfl
  case h_5 st m => rw [st, m]; rfl
  case h_6 st m => rw [st, m]; rfl
  case h_7 data address single sixNext sixDone control =>
    unfold boundaryRow
    split
    case h_1 st => exact (data st rfl).elim
    case h_2 st => exact (address st rfl).elim
    case h_3 st m => exact (single st m rfl).elim
    case h_4 st m => exact (sixNext st m rfl).elim
    case h_5 st m => exact (sixDone st m rfl).elim
    case h_6 st m => exact (control st m rfl).elim
    case h_7 => rfl

/-! One equation for each row of the table (R122 to R128). -/

section Rows

variable {s : State}

theorem boundaryCase_data (st : s.state = .sendingDataCmd) :
    boundaryCase true s = .next (addressFlags (s.setState .sendingAddressCmd)) := by
  simp only [boundaryCase, st]; rfl

theorem boundaryCase_address (st : s.state = .sendingAddressCmd) :
    boundaryCase false s = .next (payloadFlags (s.setState .sendingPayloadBytes)) := by
  simp only [boundaryCase, st]; rfl

theorem boundaryCase_single (st : s.state = .sendingPayloadBytes)
    (method : s.transferMethod = .singleByteFixedAddress) : boundaryCase true s = .next (terminate s) := by
  simp only [boundaryCase, st, method]; rfl

theorem boundaryCase_sixNext (st : s.state = .sendingPayloadBytes) (method : s.transferMethod = .sixByteAutoAddress)
    {c : Fin 6} (advance : c.val = s.payloadCursor.val + 1) (notLast : c.val < 5) :
    boundaryCase false s = .next (s.setCursor c) := by
  have row : s.payloadCursor.val + 1 < 5 := advance ▸ notLast
  simp only [boundaryCase, st, method, if_pos row]
  exact advanceCursor_to advance

theorem boundaryCase_sixLast (st : s.state = .sendingPayloadBytes) (method : s.transferMethod = .sixByteAutoAddress)
    (cursor : s.payloadCursor.val = 4) : boundaryCase false s = .next (lastByteFlags (s.setCursor 5)) := by
  have row : s.payloadCursor.val + 1 = 5 := congrArg (· + 1) cursor
  have advance : (5 : Fin 6).val = s.payloadCursor.val + 1 := row.symm
  simp only [boundaryCase, st, method, row, Nat.lt_irrefl, if_false, if_true, execWSixLast, advanceCursor_to advance,
    andThen_next]

theorem boundaryCase_sixDone (st : s.state = .sendingPayloadBytes) (method : s.transferMethod = .sixByteAutoAddress) :
    boundaryCase true s = .next (terminate s) := by
  simp only [boundaryCase, st, method]; rfl

theorem boundaryCase_control (st : s.state = .sendingDisplayCtrlCmd) (method : s.transferMethod = .displayControl) :
    boundaryCase true s = .next (terminate s) := by
  simp only [boundaryCase, st, method]; rfl

end Rows

/-- Where the table has a row, the boundary answers a next state. -/
theorem boundaryCase_of_hasRow {s : State} (row : s.BoundaryHasRow) :
    ∃ t, boundaryCase s.stopPending s = .next t := by
  rcases row with everyCursor | ⟨st, method, noStop, cursor⟩
  · unfold hasRowForEveryCursor at everyCursor
    split at everyCursor
    case h_1 st => exact ⟨_, everyCursor ▸ boundaryCase_data st⟩
    case h_2 st => exact ⟨_, (Bool.not_eq_true' _).mp everyCursor ▸ boundaryCase_address st⟩
    case h_3 st method => exact ⟨_, everyCursor ▸ boundaryCase_single st method⟩
    case h_4 st method => exact ⟨_, everyCursor ▸ boundaryCase_sixDone st method⟩
    case h_6 st method => exact ⟨_, everyCursor ▸ boundaryCase_control st method⟩
    all_goals cases everyCursor
  · rw [noStop]
    by_cases last : s.payloadCursor.val = 4
    · exact ⟨_, boundaryCase_sixLast st method last⟩
    · exact ⟨_, boundaryCase_sixNext st method (c := ⟨s.payloadCursor.val + 1, by omega⟩) rfl (by simp only; omega)⟩

/-- A boundary row does to a state with other lines what it does to this one. -/
theorem boundaryCase_sameButLines {p : Bool} {a b u : State} (same : SameButLines a b)
    (next : boundaryCase p a = .next u) : ∃ t, boundaryCase p b = .next t ∧ SameButLines u t := by
  have state : b.state = a.state := by rw [same]
  have method : b.transferMethod = a.transferMethod := by rw [same]
  have cursor : b.payloadCursor = a.payloadCursor := by rw [same]
  rcases boundaryCase_cases next with ⟨st, rfl, rfl⟩ | ⟨st, rfl, rfl⟩ | ⟨st, m, rfl, rfl⟩ |
    ⟨st, m, rfl, below, notLast, rfl⟩ | ⟨st, m, rfl, last, rfl⟩ | ⟨st, m, rfl, rfl⟩ | ⟨st, m, rfl, rfl⟩
  · exact ⟨_, boundaryCase_data (state.trans st), by rw [same]; rfl⟩
  · exact ⟨_, boundaryCase_address (state.trans st), by rw [same]; rfl⟩
  · exact ⟨_, boundaryCase_single (state.trans st) (method.trans m), by rw [same]; rfl⟩
  · have advance : (⟨a.payloadCursor.val + 1, below⟩ : Fin 6).val = b.payloadCursor.val + 1 := by rw [cursor]
    exact ⟨_, boundaryCase_sixNext (state.trans st) (method.trans m) advance notLast, by rw [same]; rfl⟩
  · exact ⟨_, boundaryCase_sixLast (state.trans st) (method.trans m) (by rw [cursor]; exact last), by rw [same]; rfl⟩
  · exact ⟨_, boundaryCase_sixDone (state.trans st) (method.trans m), by rw [same]; rfl⟩
  · exact ⟨_, boundaryCase_control (state.trans st) (method.trans m), by rw [same]; rfl⟩

/-- Where the table has no row, the boundary is the fault with the combination (R130, R163). -/
theorem boundaryCase_of_not_hasRow {s : State} (noRow : ¬ s.BoundaryHasRow) :
    boundaryCase s.stopPending s = .fault (.seqFault s.state s.transferMethod s.stopPending s.payloadCursor) := by
  simp only [State.BoundaryHasRow, not_or] at noRow
  obtain ⟨notEvery, notSix⟩ := noRow
  unfold boundaryCase
  split
  case h_4 st m stop =>
    have last : s.payloadCursor.val = 5 := congrArg Fin.val (not_not.mp fun cursor => notSix ⟨st, m, stop, cursor⟩)
    rw [if_neg (by omega), if_neg (by omega)]
    rfl
  case h_7 => rfl
  all_goals exact absurd (by simp only [*]; rfl) notEvery

/-- The lines and the trace do not choose the row. -/
theorem hasRow_of_sameButLines {s u : State} (row : s.BoundaryHasRow) (same : SameButLines s u) : u.BoundaryHasRow := by
  rw [same]; exact row

/-! ### The rows of the sequencer as next states -/

theorem exec_tWrap_18 (s : State) : exec (.tWrap 18) s = boundaryCase s.stopPending (boundaryEntry s) :=
  wrapAfter_last_eq s

/-- Settles O33: each of the three rows is `Terminate`, which writes the timer and the state. -/
theorem terminatingRowsStopTheTimer : Obligations.TerminatingRowsStopTheTimer :=
  fun _ => ⟨rfl, rfl, rfl⟩

/-- Settles O34: the boundary's case analysis is the meaning of the table's row, and a selector decodes to that row. -/
theorem wrapRunsTheRowOfTheSelector : Obligations.WrapRunsTheRowOfTheSelector := by
  intro s
  refine ⟨_, decode_boundSelector s.state s.transferMethod s.stopPending s.payloadCursor, fun noStop => ?_,
    fun stop => ?_⟩
  · rw [exec_tWrap_18, boundaryEntry_of_noStop noStop, boundaryCase_eq_exec]; rfl
  · refine ⟨_, rfl, ?_⟩
    rw [exec_tWrap_18, boundaryEntry_of_stop stop, boundaryCase_eq_exec]; rfl

/-- Settles O35: the table's rows each answer a next state, and what is left of the case analysis is the fault. -/
theorem combinationsWithoutARowFault : Obligations.CombinationsWithoutARowFault := by
  intro s
  have same := boundaryEntry_sameButLines s
  have stop : (boundaryEntry s).stopPending = s.stopPending := by rw [same]; rfl
  refine ⟨fun noRow => ?_, fun row => ?_, fun _ _ _ => rfl⟩
  · have fault := boundaryCase_of_not_hasRow (s := boundaryEntry s) (by rw [same]; exact noRow)
    rw [exec_tWrap_18]
    rw [same] at fault ⊢
    exact fault
  · obtain ⟨t, next⟩ := boundaryCase_of_hasRow (s := boundaryEntry s) (by rw [same]; exact row)
    exact ⟨t, by rw [exec_tWrap_18, ← stop, next]⟩

end Sys2Proof.Proofs.BoundaryRow
end

section
/-! PROOFS. What a receiver reads off a window's levels (spec 20_memory.md R43; 41_tick_sequencer.md R104, R109). -/

namespace Sys2Proof.Proofs.WindowEvents

open Sys2Proof Sys2Proof.Machine Sys2Proof.Proofs.TickStep Sys2Proof.Proofs.BoundaryRow Sys2Proof.Proofs.Window

/-! ### Levels that lead from one pair of lines to another -/

/-- The levels lead from the pair p to the pair q, and a receiver reads these events off them. -/
structure Leads (p : LinePair) (levels : List LinePair) (q : LinePair) (events : List WireEvent) : Prop where
  last : levels.getLast?.getD p = q
  events : wireEvents p levels = events

theorem Leads.nil (p : LinePair) : Leads p [] p [] := ⟨rfl, rfl⟩

/-- One pin write leads to its pair, with the one event of its change. -/
theorem Leads.ofWrite (p q : LinePair) : Leads p (traceOf p q) q (wireEvent p q) where
  last := by
    unfold traceOf
    split
    case isTrue same => exact same
    case isFalse => rfl
  events := wireEvents_traceOf p q

theorem Leads.append {p q r : LinePair} {a b : List LinePair} {x y : List WireEvent} (first : Leads p a q x)
    (second : Leads q b r y) : Leads p (a ++ b) r (x ++ y) where
  last := by
    rw [List.getLast?_append, ← second.last, ← first.last]
    cases b.getLast? <;> cases a.getLast? <;> rfl
  events := by rw [wireEvents_append, first.last, first.events, second.events]

/-! ### The events of a window -/

/-- What tick k says to a receiver: an odd tick is a clock rise, an even one nothing (R104). -/
def tickEvents (B : Byte) (k : Nat) : List WireEvent :=
  if k % 2 = 1 then [.bit (waveform B false k).dio] else []

/-- What the first k ticks say to a receiver. -/
def shiftEvents (B : Byte) (k : Nat) : List WireEvent := (List.range k).flatMap (tickEvents B)

/-- A change under a low clock is no event. -/
theorem wireEvent_of_low (p : LinePair) {q : LinePair} (low : q.clk = false) : wireEvent p q = [] := by
  simp [wireEvent, low]

/-- A clock rise is the bit on the data line. -/
theorem wireEvent_of_rise {p q : LinePair} (low : p.clk = false) (high : q.clk = true) :
    wireEvent p q = [.bit q.dio] := by
  simp [wireEvent, low, high]

/-- A write of the level the line has is no event. -/
theorem wireEvent_self (p : LinePair) : wireEvent p p = [] := by
  simp [wireEvent]

/-- One tick's levels lead from the lines it finds to the waveform's, with that tick's events. -/
theorem leads_cellLevels (B : Byte) {k : Nat} (inWindow : k < 19) :
    Leads (linesBefore B k) (cellLevels B k) (waveform B false k) (tickEvents B k) := by
  have both := (Leads.ofWrite (linesBefore B k) (betweenWrites B k)).append (.ofWrite _ (waveform B false k))
  have read : wireEvent (linesBefore B k) (betweenWrites B k) ++ wireEvent (betweenWrites B k) (waveform B false k) =
      tickEvents B k := by
    unfold tickEvents
    split
    case isTrue odd =>
      have between : betweenWrites B k = waveform B false k := by
        rw [waveform_odd odd inWindow, betweenWrites, decide_eq_true odd]
      have high : (waveform B false k).clk = true := by rw [waveform_odd odd inWindow]
      rw [between, wireEvent_of_rise (linesBefore_odd_clk odd B) high, wireEvent_self, List.append_nil]
    case isFalse even =>
      rw [wireEvent_of_low _ (decide_eq_false even), wireEvent_of_low _ (waveform_even_clk even B), List.append_nil]
  exact read ▸ both

/-- The first k ticks lead from low lines to the lines of the waveform. -/
theorem leads_shiftLevels (B : Byte) {k : Nat} (inWindow : k ≤ 19) :
    Leads ⟨false, false⟩ (shiftLevels B k) (linesBefore B k) (shiftEvents B k) := by
  induction k with
  | zero => exact .nil _
  | succ k ih =>
    have more := (ih (Nat.le_of_succ_le inWindow)).append (leads_cellLevels B inWindow)
    rwa [← List.flatMap_singleton (tickEvents B) k, shiftEvents, ← List.flatMap_append, ← List.range_succ] at more

/-- The nine clock rises of a window are the byte's bits and the acknowledge slot (R43, R105). -/
theorem shiftEvents_window (B : Byte) : shiftEvents B 19 = byteEvents B := rfl

/-- The events of a start condition, if one is asked for. -/
def startEvents (start : Bool) : List WireEvent := if start then [.start] else []

/-- The events of a stop condition, if one is asked for: the clock rise before it (R109), and the stop. -/
def stopEvents (stop : Bool) : List WireEvent := if stop then [.bit false, .stop] else []

theorem leads_startLevels (start : Bool) :
    Leads ⟨start, start⟩ (startLevels start) ⟨false, false⟩ (startEvents start) := by
  cases start <;> exact ⟨rfl, rfl⟩

theorem leads_stopLevels (stop : Bool) :
    Leads ⟨false, false⟩ (stopLevels stop) ⟨stop, stop⟩ (stopEvents stop) := by
  cases stop <;> exact ⟨rfl, rfl⟩

/-- A window leads from lines at its start flag to lines at its stop flag, and says its byte between them. -/
theorem leads_windowLevels (start : Bool) (B : Byte) (stop : Bool) :
    Leads ⟨start, start⟩ (windowLevels start B stop) ⟨stop, stop⟩
      (startEvents start ++ byteEvents B ++ stopEvents stop) :=
  ((leads_startLevels start).append (shiftEvents_window B ▸ leads_shiftLevels B (Nat.le_refl 19))).append
    (leads_stopLevels stop)

/-- Settles O49: the levels of a window lead from its entry lines to its exit lines, and their events are read off
tick by tick. -/
theorem windowCarriesItsByteOnTheWire : Obligations.WindowCarriesItsByteOnTheWire := by
  intro s B runs first byte row entry
  obtain ⟨e, run, same, lines, trace⟩ := run_window runs first byte
  have stop : e.stopPending = s.stopPending := by rw [same]
  obtain ⟨t, next⟩ := boundaryCase_of_hasRow (hasRow_of_sameButLines row same)
  rw [stop] at next
  have frame := boundaryCase_frame next
  have entered : s.lines = ⟨s.startPending, s.startPending⟩ := congrArg₂ LinePair.mk entry.1 entry.2
  refine ⟨t, windowLevels s.startPending B s.stopPending, run.trans next, ?_, ?_, ?_, ?_⟩
  · rw [frame.tick, same]; exact first
  · exact ⟨frame.clockLine.trans lines.1, frame.dataLine.trans lines.2⟩
  · rw [frame.levelTrace, trace entry]
  · rw [entered, (leads_windowLevels s.startPending B s.stopPending).events]; rfl

end Sys2Proof.Proofs.WindowEvents
end

section
/-! PROOFS. The micro-operations and the TICK step they make up (spec 41_tick_sequencer.md sections 1 and 2). -/

namespace Sys2Proof.Proofs.MicroOps

open Sys2Proof Sys2Proof.Machine Sys2Proof.Proofs.TickSequencer Sys2Proof.Proofs.TickStep
  Sys2Proof.Proofs.BoundaryRow Sys2Proof.Proofs.Window

/-! ### Pin writes as whole states -/

/-- What a data write appends to the trace depends on the data line only (R7, R8). -/
theorem traceOf_write_dio (s : State) (level : Level) :
    traceOf s.lines (s.lines.write .dio level) = if s.dataLine = level then [] else [⟨s.clockLine, level⟩] := by
  simp only [traceOf, LinePair.write_dio, State.lines_clk]
  refine if_congr ?_ rfl rfl
  simp only [State.lines, LinePair.mk.injEq, true_and]

/-- A data write as a whole next state (R8). -/
theorem pinWrite_dio (s : State) (level : Level) :
    s.pinWrite .dio level = { s with
      dataLine := level
      levelTrace := if s.dataLine = level then s.levelTrace else s.levelTrace ++ [⟨s.clockLine, level⟩] } := by
  rw [State.pinWrite, traceOf_write_dio]
  split
  · rw [List.append_nil]; rfl
  · rfl

theorem startCondition_levelTrace (s : State) : (startCondition s).levelTrace =
    s.levelTrace ++ traceOf s.lines ⟨s.clockLine, false⟩ ++ traceOf ⟨s.clockLine, false⟩ ⟨false, false⟩ := rfl

theorem stopCondition_levelTrace (s : State) : (stopCondition s).levelTrace =
    s.levelTrace ++ traceOf s.lines ⟨true, s.dataLine⟩ ++ traceOf ⟨true, s.dataLine⟩ ⟨true, true⟩ := rfl

/-- From the idle bus the start condition passes (1,0) and (0,0) (R102, D6). -/
theorem startCondition_of_idle {s : State} (idle : s.linesAre true true) : startCondition s = { s with
    clockLine := false, dataLine := false, levelTrace := s.levelTrace ++ [⟨true, false⟩, ⟨false, false⟩] } := by
  obtain ⟨clk, dio⟩ := idle
  have trace : (startCondition s).levelTrace = s.levelTrace ++ [⟨true, false⟩, ⟨false, false⟩] := by
    rw [startCondition_levelTrace, State.lines, clk, dio, List.append_assoc]; rfl
  rw [← trace]; rfl

/-- From low lines the stop condition passes (1,0) and (1,1) (R121). -/
theorem stopCondition_of_low {s : State} (low : s.linesAre false false) : stopCondition s = { s with
    clockLine := true, dataLine := true, levelTrace := s.levelTrace ++ [⟨true, false⟩, ⟨true, true⟩] } := by
  obtain ⟨clk, dio⟩ := low
  have trace : (stopCondition s).levelTrace = s.levelTrace ++ [⟨true, false⟩, ⟨true, true⟩] := by
    rw [stopCondition_levelTrace, State.lines, clk, dio, List.append_assoc]; rfl
  rw [← trace]; rfl

/-! ### The micro-operations a TICK step runs -/

theorem exec_tBit {s : State} {B : Byte} (byte : currentByte s = some B) (b : BitVec 3) :
    exec (.tBit b) s = .next (dataCell B b.toNat s) := by
  simp only [exec, execTBit, byte]

/-- A TICK step begins with `T_START` where it is asked for (R100). -/
theorem startPrefix_next (s : State) :
    (if s.tick = 0 ∧ s.startPending = true then exec .tStart s else .next s) = .next (startPrefix s) := by
  unfold startPrefix
  by_cases asked : s.tick = 0 ∧ s.startPending = true
  · rw [if_pos asked, if_pos ⟨congrArg Fin.val asked.1, asked.2⟩]; rfl
  · rw [if_neg asked, if_neg fun both => asked ⟨Fin.ext both.1, both.2⟩]

/-- The counter decodes to the micro-operation whose meaning is the half cell of its tick (R66, R100). -/
theorem decode_cell (t : Fin 19) : ∃ op, decode ⟨.tick5 .cell, 5, t.val⟩ = some op ∧
    ∀ B u, currentByte u = some B → exec op u = .next (halfCell B t u) := by
  have inWindow : ¬ 18 < t.val := by omega
  rw [decode_tick5 .cell (by omega)]
  unfold decodeTick halfCell
  simp only [if_neg inWindow]
  split
  · exact ⟨_, rfl, fun _ _ _ => rfl⟩
  split
  case isTrue data =>
    have index : (BitVec.ofNat 3 (t.val / 2)).toNat = t.val / 2 := Nat.mod_eq_of_lt (by omega)
    exact ⟨_, rfl, fun B u byte => by rw [exec_tBit byte, index]⟩
  split
  · exact ⟨_, rfl, fun _ _ _ => rfl⟩
  · exact ⟨_, rfl, fun _ _ _ => rfl⟩

theorem exec_tWrap {t : BitVec 5} (isTick : t.toNat < 19) (s : State) :
    exec (.tWrap t) s = wrapAfter ⟨t.toNat, isTick⟩ s := dif_pos isTick

/-- `T_WRAP` of the counter's value is the counter's advance (R107). -/
theorem exec_tWrap_ofNat (t : Fin 19) (s : State) : exec (.tWrap (BitVec.ofNat 5 t.val)) s = wrapAfter t s := by
  have value : (BitVec.ofNat 5 t.val).toNat = t.val := Nat.mod_eq_of_lt (by omega)
  rw [exec_tWrap (by rw [value]; exact t.isLt)]
  exact congrArg (wrapAfter · s) (Fin.ext value)

/-! ### The obligations -/

/-- Settles O23: a pin write changes the pair exactly where its own line changes. -/
theorem pinWriteDrivesOneLine : Obligations.PinWriteDrivesOneLine :=
  fun s level => ⟨pinWrite_clk s level, pinWrite_dio s level⟩

/-- Settles O25: each micro-operation is its two pin writes. -/
theorem microOperationsDriveTheLines : Obligations.MicroOperationsDriveTheLines := by
  intro s
  refine ⟨⟨_, rfl, ⟨rfl, rfl⟩, startCondition_sameButLines s, rfl⟩,
    ⟨_, rfl, ⟨rfl, rfl⟩, ackCell_sameButLines s, rfl⟩, ⟨_, rfl, ⟨rfl, rfl⟩, tailCell_sameButLines s, rfl⟩, ?_⟩
  intro b B byte
  exact ⟨_, exec_tBit byte b, ⟨rfl, rfl⟩, dataCell_sameButLines B b.toNat s, rfl⟩

/-- Settles O26: one case of `CurrentByte` for each protocol state. -/
theorem currentByteIsSelectedByTheState : Obligations.CurrentByteIsSelectedByTheState := by
  intro s
  unfold currentByte
  refine ⟨?_, ?_, ?_, ?_, ?_⟩ <;> intro st <;> rw [st]

/-- Settles O27: with the entry lines known, both pin writes of the condition change a level. -/
theorem startAndStopConditionsOnTheTrace : Obligations.StartAndStopConditionsOnTheTrace :=
  fun _ => ⟨fun idle => congrArg _ (startCondition_of_idle idle),
    fun low _ _ => congrArg _ (stopCondition_of_low low)⟩

/-- Settles O28: below tick 18 the counter's advance is the whole of `T_WRAP`. -/
theorem wrapAdvancesTheCounterBelowEighteen : Obligations.WrapAdvancesTheCounterBelowEighteen := by
  intro t below s
  rw [exec_tWrap (Nat.lt_succ_of_lt below), wrapAfter_below (Nat.succ_lt_succ below)]
  rfl

/-- Settles O29: the stop condition is its two pin writes. -/
theorem stopConditionLeavesTheBusIdle : Obligations.StopConditionLeavesTheBusIdle :=
  fun _ _ s => ⟨_, rfl, ⟨rfl, rfl⟩, rfl, stopCondition_sameButLines s, stopCondition_levelTrace s⟩

/-- Settles O36: the counter decodes to the micro-operation whose meaning is the half cell of its tick. -/
theorem tickStepRunsItsMicroOperations : Obligations.TickStepRunsItsMicroOperations := by
  intro s runs busy
  obtain ⟨B, byte⟩ := exists_currentByte busy
  obtain ⟨op, read, meaning⟩ := decode_cell s.tick
  have byteNow := (currentByte_of_sameButLines (startPrefix_sameButLines s)).trans byte
  refine ⟨op, read, ?_⟩
  rw [startPrefix_next, andThen_next, meaning B _ byteNow, andThen_next, exec_tWrap_ofNat, step_tick runs byte,
    tickStep_runs B (tickEnable_of_runs runs) busy]

/-- Settles O37: a byte read as a row of its window is the byte that row stands for, and the tick shifts it either
way. -/
theorem stepRunsTheFetchedByte : Obligations.StepRunsTheFetchedByte := by
  intro s B i runs byte read
  rw [step_tick runs byte, exec_wireByte (wireByte_of_decode read)]

/-! ### The wire bytes -/

/-- Pin writes only add to the trace. -/
theorem pinWrite_trace_grows (s : State) (p : Pin) (level : Level) :
    s.levelTrace <+: (s.pinWrite p level).levelTrace :=
  List.prefix_append ..

theorem startPrefix_trace_grows (s : State) : s.levelTrace <+: (startPrefix s).levelTrace := by
  unfold startPrefix
  split
  · exact (pinWrite_trace_grows ..).trans (pinWrite_trace_grows ..)
  · exact List.prefix_rfl

theorem halfCell_trace_grows (B : Byte) (t : Fin 19) (s : State) : s.levelTrace <+: (halfCell B t s).levelTrace := by
  unfold halfCell
  split
  · exact pinWrite_trace_grows ..
  split
  · exact (pinWrite_trace_grows ..).trans (pinWrite_trace_grows ..)
  split
  · exact (pinWrite_trace_grows ..).trans (pinWrite_trace_grows ..)
  · exact (pinWrite_trace_grows ..).trans (pinWrite_trace_grows ..)

/-- Settles O39: one half cell and the counter's advance, by the branch of the tick. -/
theorem wireByteShiftsOneHalfCell : Obligations.WireByteShiftsOneHalfCell := by
  intro i B s byte enabled busy below
  rw [exec_wireByte byte, tickStep_runs B enabled busy, wrapAfter_below (Nat.succ_lt_succ below)]
  refine ⟨_, rfl, fun odd => ?_, fun even data => ?_, fun ack => ?_, ?_, ?_⟩
  · have later : s.tick ≠ 0 := fun zero => by rw [zero] at odd; cases odd
    rw [startPrefix_of_tick_ne_zero later, halfCell, if_pos odd]
    exact ⟨rfl, rfl⟩
  · rw [halfCell, if_neg (by omega), if_pos data]
    exact ⟨rfl, rfl⟩
  · rw [halfCell, if_neg (by omega), if_neg (by omega), if_pos ack]
    exact ⟨rfl, rfl⟩
  · exact (startPrefix_trace_grows s).trans (halfCell_trace_grows B s.tick _)
  · have same := halfCell_startPrefix_sameButLines B s
    rw [same]; rfl

/-- Settles O40: the boundary runs the same row on other lines, and rows neither read nor write the lines. -/
theorem wireByteEndsItsWindow : Obligations.WireByteEndsItsWindow := by
  intro i B s byte enabled busy last row
  obtain ⟨e, wrapped, same, lines⟩ := tickStep_last B enabled busy last
  have table := boundaryCase_eq_exec s.stopPending (s.setTick 0)
  obtain ⟨u, effect⟩ := boundaryCase_of_hasRow (s := s.setTick 0) row
  obtain ⟨t, next, sameEffect⟩ := boundaryCase_sameButLines same effect
  have frame := boundaryCase_frame next
  refine ⟨t, u, ?_, ⟨frame.clockLine.trans lines.1, frame.dataLine.trans lines.2⟩, table.symm.trans effect, sameEffect⟩
  rw [exec_wireByte byte, wrapped]
  exact next

end Sys2Proof.Proofs.MicroOps
end

section
/-! PROOFS. What every instruction and every step leave unchanged (spec 10_state.md; 20_memory.md section 4), and whose
turn it is (spec 40_requests.md section 1; 60_exceptions.md sections 1 and 7; 70_reset_and_hazards.md section 1). -/

namespace Sys2Proof.Proofs.Frames

open Sys2Proof Sys2Proof.Machine Sys2Proof.Proofs.Requests Sys2Proof.Proofs.TickStep Sys2Proof.Proofs.BoundaryRow
  Sys2Proof.Proofs.MicroOps

/-! ### What TICK leaves -/

/-- What TICK writes nowhere: the buffers, the method, the persisted fields, the results and the surroundings (R54). -/
structure TickFrame (s t : State) : Prop where
  commandBytes : t.commandBytes = s.commandBytes
  payloadBytes : t.payloadBytes = s.payloadBytes
  transferMethod : t.transferMethod = s.transferMethod
  displayOn : t.displayOn = s.displayOn
  brightness : t.brightness = s.brightness
  results : t.results = s.results
  hostCalls : t.hostCalls = s.hostCalls
  tickStarved : t.tickStarved = s.tickStarved

theorem TickFrame.refl (s : State) : TickFrame s s := ⟨rfl, rfl, rfl, rfl, rfl, rfl, rfl, rfl⟩

theorem TickFrame.trans {s t u : State} (first : TickFrame s t) (second : TickFrame t u) : TickFrame s u where
  commandBytes := second.commandBytes.trans first.commandBytes
  payloadBytes := second.payloadBytes.trans first.payloadBytes
  transferMethod := second.transferMethod.trans first.transferMethod
  displayOn := second.displayOn.trans first.displayOn
  brightness := second.brightness.trans first.brightness
  results := second.results.trans first.results
  hostCalls := second.hostCalls.trans first.hostCalls
  tickStarved := second.tickStarved.trans first.tickStarved

theorem TickFrame.of_sameButLines {s t : State} {k : Fin 19} (same : SameButLines (s.setTick k) t) :
    TickFrame s t := by
  rw [same]; constructor <;> rfl

theorem TickFrame.of_boundary {p : Bool} {s e t : State} {k : Fin 19} (same : SameButLines (s.setTick k) e)
    (next : boundaryCase p e = .next t) : TickFrame s t := by
  obtain ⟨cmd, pay, _, method, on, level, _, _, _, results, calls, starved⟩ := boundaryCase_frame next
  rw [same] at cmd pay method on level results calls starved
  exact ⟨cmd, pay, method, on, level, results, calls, starved⟩

/-- A TICK step of any byte writes none of them, whether it is delivered or not. -/
theorem tickStep_frame {B : Byte} {s t : State} (next : tickStep B s = .next t) : TickFrame s t := by
  cases enabled : s.tickEnable with
  | false =>
    rw [tickStep, if_pos enabled] at next
    cases next
    exact TickFrame.refl s
  | true =>
    by_cases ready : s.state = .ready
    · rw [tickStep, if_neg (by rw [enabled]; decide), if_pos ready] at next
      cases next
    by_cases below : s.tick.val + 1 < 19
    · obtain ⟨u, shifted, same⟩ := tickStep_below B enabled ready below
      rw [shifted] at next
      cases next
      exact .of_sameButLines same
    · obtain ⟨e, wrapped, same, _⟩ := tickStep_last B enabled ready (by omega)
      exact .of_boundary same (wrapped ▸ next)

/-- A delivered tick writes none of them. -/
theorem tick_frame {s t : State} (runs : tickRuns s = true) (next : step s = .next t) : TickFrame s t := by
  obtain ⟨_, ⟨_, same⟩ | ⟨_, _, same, _, row⟩⟩ := tick_step_cases runs next
  · exact .of_sameButLines same
  · exact .of_boundary same row

theorem advanceCursor_frame {s t : State} (next : advanceCursor s = .next t) : TickFrame s t := by
  rcases advanceCursor_cases s with ⟨_, advance⟩ | ⟨_, fault⟩
  · rw [advance] at next
    cases next
    constructor <;> rfl
  · rw [fault] at next
    cases next

theorem execTWrap_frame {k : BitVec 5} {s t : State} (next : execTWrap k s = .next t) : TickFrame s t := by
  unfold execTWrap at next
  split at next
  case isTrue isTick =>
    by_cases below : k.toNat + 1 < 19
    · rw [wrapAfter_below below] at next
      cases next
      constructor <;> rfl
    · have last : (⟨k.toNat, isTick⟩ : Fin 19) = 18 := Fin.ext (by simp only; omega)
      rw [last, wrapAfter_last_eq] at next
      exact .of_boundary (boundaryEntry_sameButLines s) next
  case isFalse => cases next

/-- No row but a request writes them: the wire bytes, the micro-operations and the boundary rows are TICK's. -/
theorem exec_frame {i : Instr} {s t : State} (notRequest : i.isRequest = false) (next : exec i s = .next t) :
    TickFrame s t := by
  cases i with
  | cmdDataFixed | cmdDataAuto | cmdAddr | cmdDispCtrl | payload => exact tickStep_frame next
  | tStart | tClkhi | tAck | tTail => cases next; constructor <;> rfl
  | tBit b =>
    cases byte : currentByte s with
    | none => simp only [exec, execTBit, byte] at next; cases next
    | some B => rw [exec_tBit byte] at next; cases next; constructor <;> rfl
  | tWrap k => exact execTWrap_frame next
  | wStop | wDataToAddr | wAddrToPayload | wSingleDone | wSixDone | wCtrlDone => cases next; constructor <;> rfl
  | wSixNext => exact advanceCursor_frame next
  | wSixLast =>
    obtain ⟨u, advance, flags⟩ := andThen_eq_next next
    cases flags
    exact (advanceCursor_frame advance).trans (by constructor <;> rfl)
  | seqFault => cases next
  | _ => cases notRequest

/-! ### Whose turn it is -/

/-- While HOST's next call waits for the engine or no tick comes, both agents hold. -/
theorem step_hold {s : State} (holds : turn s = .hold) : step s = .next s := by
  unfold step
  rw [holds]

theorem turn_host {s : State} {c : HostCall} {rest : List HostCall} (ready : s.state = .ready)
    (stopped : s.tickEnable = false) (calls : s.hostCalls = c :: rest) : turn s = .host c.call := by
  simp only [turn, tickRuns, stopped, calls, ready, Bool.false_and, Bool.false_eq_true, if_false, if_true]

/-- In `Ready` with the timer stopped a step is HOST's next call, taken off its list (R80). -/
theorem step_host {s : State} {c : HostCall} {rest : List HostCall} (ready : s.state = .ready)
    (stopped : s.tickEnable = false) (calls : s.hostCalls = c :: rest) (request : c.call.isRequest = true) :
    step s = exec c.call { s with hostCalls := rest } := by
  have taken : s.takeCall = { s with hostCalls := rest } := by rw [State.takeCall, calls]; rfl
  unfold step
  rw [turn_host ready stopped calls, ← taken]
  exact if_pos request

/-- A call that is no request is refused (R31). -/
theorem step_notARequest {s : State} {c : HostCall} {rest : List HostCall} (ready : s.state = .ready)
    (stopped : s.tickEnable = false) (calls : s.hostCalls = c :: rest) (notRequest : c.call.isRequest = false) :
    step s = .refused .notARequest := by
  unfold step
  rw [turn_host ready stopped calls]
  exact if_neg (Bool.eq_false_iff.mp notRequest)

/-- A step is a TICK step, HOST's next call, or nothing. -/
theorem turn_cases (s : State) :
    tickRuns s = true ∨
    (∃ c rest, s.state = .ready ∧ s.tickEnable = false ∧ s.hostCalls = c :: rest) ∨ turn s = .hold := by
  by_cases runs : tickRuns s = true
  · exact .inl runs
  cases enabled : s.tickEnable with
  | true => exact .inr (.inr (by simp only [turn, if_neg runs, enabled, if_true]))
  | false =>
    cases calls : s.hostCalls with
    | nil => exact .inr (.inr (by simp only [turn, if_neg runs, enabled, calls, Bool.false_eq_true, if_false]))
    | cons c rest =>
      by_cases ready : s.state = .ready
      · exact .inr (.inl ⟨c, rest, ready, rfl, rfl⟩)
      · exact .inr (.inr (by
          simp only [turn, if_neg runs, enabled, calls, if_neg ready, Bool.false_eq_true, if_false]))

/-- What a step can do, guards included: a delivered tick, HOST's next call, or nothing. -/
theorem step_cases {s t : State} (next : step s = .next t) :
    tickRuns s = true ∨
    (∃ c rest, s.state = .ready ∧ s.tickEnable = false ∧ s.hostCalls = c :: rest ∧ c.call.isRequest = true ∧
      exec c.call { s with hostCalls := rest } = .next t) ∨ t = s := by
  rcases turn_cases s with runs | ⟨c, rest, ready, stopped, calls⟩ | holds
  · exact .inl runs
  · cases request : c.call.isRequest with
    | false =>
      rw [step_notARequest ready stopped calls request] at next
      cases next
    | true => exact .inr (.inl ⟨c, rest, ready, stopped, calls, request, step_host ready stopped calls request ▸ next⟩)
  · rw [step_hold holds] at next
    cases next
    exact .inr (.inr rfl)

/-! ### The obligations -/

/-- Settles O1: the reset state has these fields by definition. -/
theorem resetIsReadyWithTimerStopped : Obligations.ResetIsReadyWithTimerStopped :=
  fun _ _ _ _ => ⟨rfl, rfl, rfl, rfl, rfl, rfl, rfl, rfl, rfl, rfl, rfl, rfl, rfl, rfl, rfl, rfl, rfl, rfl⟩

/-- Settles O2: in `Ready` with the timer stopped and no call both agents hold, and a call is served at once. -/
theorem resetServesTheFirstRequestAtOnce : Obligations.ResetServesTheFirstRequestAtOnce :=
  fun _ _ _ _ => ⟨rfl, step_hold rfl, fun _ request => step_host rfl rfl rfl request⟩

/-- Settles O22: rows that are no request are TICK's and write neither field; of the requests only the field's own
call does. -/
theorem onlyItsOwnCallWritesAPersistedField : Obligations.OnlyItsOwnCallWritesAPersistedField := by
  intro i s t next
  cases request : i.isRequest with
  | false =>
    have frame := exec_frame request next
    exact ⟨fun _ => frame.displayOn, fun _ => frame.brightness⟩
  | true =>
    rcases request_cases request next with ⟨_, rfl⟩ | ⟨_, served⟩
    · exact ⟨fun _ => rfl, fun _ => rfl⟩
    · cases served with
      | badPosition => exact ⟨fun _ => rfl, fun _ => rfl⟩
      | arms arms =>
        cases arms with
        | power on isPower => exact ⟨fun notPower => absurd isPower (notPower on), fun _ => rfl⟩
        | brightness level isBrightness =>
          exact ⟨fun _ => rfl, fun notBrightness => absurd isBrightness (notBrightness level)⟩
        | digit | all | control => exact ⟨fun _ => rfl, fun _ => rfl⟩

/-- Settles O38: with the timer stopped TICK has no step, so it is HOST's turn. -/
theorem stepCarriesOutTheNextCall : Obligations.StepCarriesOutTheNextCall :=
  fun _ _ _ ready stopped calls request => step_host ready stopped calls request

/-- Settles O41: without a tick and outside `Ready` both agents hold, so every run stays where it is. -/
theorem starvedOrBlockedTransferNeverMoves : Obligations.StarvedOrBlockedTransferNeverMoves := by
  intro s n _ enabled noTick
  have notRuns : ¬ tickRuns s = true := by
    rcases noTick with starved | blocked
    · simp [tickRuns, starved]
    · simp [tickRuns, blocked]
  exact run_hold n (step_hold (by simp only [turn, if_neg notRuns, enabled, if_true]))

/-- Settles O42: a TICK step writes lines, counter, state, cursor, flags and timer only. -/
theorem tickWritesNoBuffer : Obligations.TickWritesNoBuffer := by
  intro s t runs next
  obtain ⟨cmd, pay, method, on, level, results, calls, starved⟩ := tick_frame runs next
  exact ⟨cmd, pay, method, on, level, results, calls, starved⟩

/-- Settles O43: below tick 18 the counter alone moves; on tick 18 the six-byte rows alone move the cursor. -/
theorem sequencingChangesOnlyAtTheBoundary : Obligations.SequencingChangesOnlyAtTheBoundary := by
  intro s t runs next
  obtain ⟨_, ⟨below, same⟩ | ⟨last, e, same, _, row⟩⟩ := tick_step_cases runs next
  · have notLast : s.tick ≠ 18 := fun last => by rw [last] at below; exact absurd below (by decide)
    have cursor : t.payloadCursor = s.payloadCursor := by rw [same]; rfl
    refine ⟨fun _ => ?_, fun last => absurd last notLast, fun moved => absurd cursor moved⟩
    rw [same]
    exact ⟨rfl, rfl, rfl, rfl, rfl, rfl⟩
  · refine ⟨fun notLast => absurd last notLast, fun _ => ?_, fun moved => ?_⟩
    · rw [(boundaryCase_frame row).tick, same]; rfl
    · have state : e.state = s.state := by rw [same]; rfl
      have method : e.transferMethod = s.transferMethod := by rw [same]; rfl
      have cursor : e.payloadCursor = s.payloadCursor := by rw [same]; rfl
      rw [← cursor] at moved ⊢
      rcases boundaryCase_cases row with ⟨_, _, rfl⟩ | ⟨_, _, rfl⟩ | ⟨_, _, _, rfl⟩ |
        ⟨st, m, p, _, _, rfl⟩ | ⟨st, m, p, at4, rfl⟩ | ⟨_, _, _, rfl⟩ | ⟨_, _, _, rfl⟩
      · exact absurd rfl moved
      · exact absurd rfl moved
      · exact absurd rfl moved
      · exact ⟨state ▸ st, last, method ▸ m, p, rfl⟩
      · exact ⟨state ▸ st, last, method ▸ m, p, by rw [at4]; rfl⟩
      · exact absurd rfl moved
      · exact absurd rfl moved

/-- Settles O44: only the terminating rows enter `Ready`, and each of them has the stop flag set. -/
theorem readyIsEnteredWithTheTimerStopped : Obligations.ReadyIsEnteredWithTheTimerStopped := by
  intro s t busy next ready
  rcases step_cases next with runs | ⟨_, _, wasReady, _⟩ | rfl
  · obtain ⟨_, ⟨_, same⟩ | ⟨last, e, same, lines, row⟩⟩ := tick_step_cases runs next
    · exact absurd (show s.state = .ready by rw [same] at ready; exact ready) busy
    · have state : e.state = s.state := by rw [same]; rfl
      have tick : t.tick = 0 := by rw [(boundaryCase_frame row).tick, same]; rfl
      rcases boundaryCase_cases row with ⟨_, _, rfl⟩ | ⟨_, _, rfl⟩ | ⟨_, _, stop, rfl⟩ |
        ⟨_, _, _, _, _, rfl⟩ | ⟨_, _, _, _, rfl⟩ | ⟨_, _, stop, rfl⟩ | ⟨_, _, stop, rfl⟩
      · cases ready
      · cases ready
      · exact ⟨last, stop, rfl, tick, stop ▸ lines⟩
      · exact absurd (state.symm.trans ready) busy
      · exact absurd (state.symm.trans ready) busy
      · exact ⟨last, stop, rfl, tick, stop ▸ lines⟩
      · exact ⟨last, stop, rfl, tick, stop ▸ lines⟩
  · exact absurd wasReady busy
  · exact absurd ready busy

end Sys2Proof.Proofs.Frames
end

section
/-! PROOFS. The invariant (spec 10_state.md section 8): what it says in each protocol state, that it holds at reset,
that every step keeps it, and that no step from it stops. -/

namespace Sys2Proof.Proofs.Invariant

open Sys2Proof Sys2Proof.Machine Sys2Proof.Proofs.WindowBoundary Sys2Proof.Proofs.Requests Sys2Proof.Proofs.Arming
  Sys2Proof.Proofs.TickStep Sys2Proof.Proofs.BoundaryRow Sys2Proof.Proofs.Frames

/-! ### The parts of the invariant -/

/-- The part of the invariant that sequences a transfer: timer, flags, method and cursor (R29 items 2 and 5 to 8). It
says nothing of the lines. -/
def Sequenced (s : State) : Prop :=
  ((s.state = .ready → s.tickEnable = false) ∧ (s.state ≠ .ready → s.tickEnable = true)) ∧ s.DataWindowFlags ∧
  s.AddressWindowFlags ∧ s.ControlWindowFlags ∧ s.PayloadWindowFlags ∧ s.SixStartsAtZero

/-- The part of the invariant that speaks of the lines, idle and at a window's start (R29 items 2, 9 and 10). -/
def EntryLines (s : State) : Prop :=
  (s.state = .ready → s.tick = 0) ∧ s.IdleLines ∧ s.WindowLines

/-- The invariant is its three parts. -/
theorem inv_iff (s : State) : s.Inv ↔ Sequenced s ∧ EntryLines s ∧ s.CommandBytesMatch := by
  constructor
  · rintro ⟨timer, data, address, control, payload, idle, window, zero, bytes⟩
    exact ⟨⟨⟨fun ready => (timer.1 ready).1, timer.2⟩, data, address, control, payload, zero⟩,
      ⟨fun ready => (timer.1 ready).2, idle, window⟩, bytes⟩
  · rintro ⟨⟨timer, data, address, control, payload, zero⟩, ⟨tick, idle, window⟩, bytes⟩
    exact ⟨⟨fun ready => ⟨timer.1 ready, tick ready⟩, timer.2⟩, data, address, control, payload, idle, window, zero,
      bytes⟩

/-- What the sequencing part says of a state whose protocol state is the given one. -/
def SequencedIn (s : State) : EngineState → Prop
  | .ready => s.tickEnable = false
  | .sendingDataCmd =>
    s.tickEnable = true ∧ s.startPending = true ∧ s.stopPending = true ∧ s.transferMethod ≠ .displayControl ∧
      (s.transferMethod = .sixByteAutoAddress → s.payloadCursor = 0)
  | .sendingAddressCmd =>
    s.tickEnable = true ∧ s.startPending = true ∧ s.stopPending = false ∧ s.transferMethod ≠ .displayControl ∧
      (s.transferMethod = .sixByteAutoAddress → s.payloadCursor = 0)
  | .sendingDisplayCtrlCmd =>
    s.tickEnable = true ∧ s.startPending = true ∧ s.stopPending = true ∧ s.transferMethod = .displayControl
  | .sendingPayloadBytes =>
    s.tickEnable = true ∧ s.startPending = false ∧ s.transferMethod ≠ .displayControl ∧
      (s.transferMethod = .singleByteFixedAddress → s.stopPending = true) ∧
      (s.transferMethod = .sixByteAutoAddress → (s.stopPending = true ↔ s.payloadCursor = 5))

theorem sequenced_iff {s : State} {st : EngineState} (isState : s.state = st) : Sequenced s ↔ SequencedIn s st := by
  cases st <;>
    simp [Sequenced, State.DataWindowFlags, State.AddressWindowFlags, State.ControlWindowFlags,
      State.PayloadWindowFlags, State.SixStartsAtZero, SequencedIn, isState, and_assoc]

/-- A sequenced state has its timer running exactly outside `Ready`. -/
theorem Sequenced.enabled {s : State} (seq : Sequenced s) (busy : s.state ≠ .ready) : s.tickEnable = true :=
  seq.1.2 busy

/-! ### Windows -/

/-- Every window of a sequenced transfer ends at a row (R120, R130). -/
theorem Sequenced.hasRow {s : State} (seq : Sequenced s) (busy : s.state ≠ .ready) : s.BoundaryHasRow := by
  cases st : s.state with
  | ready => exact absurd st busy
  | sendingDataCmd =>
    obtain ⟨_, _, stop, _⟩ := (sequenced_iff st).mp seq
    exact .inl (by rw [st, stop]; rfl)
  | sendingAddressCmd =>
    obtain ⟨_, _, stop, _⟩ := (sequenced_iff st).mp seq
    exact .inl (by rw [st, stop]; rfl)
  | sendingDisplayCtrlCmd =>
    obtain ⟨_, _, stop, method⟩ := (sequenced_iff st).mp seq
    exact .inl (by rw [st, stop, method]; rfl)
  | sendingPayloadBytes =>
    obtain ⟨_, _, notControl, single, six⟩ := (sequenced_iff st).mp seq
    cases method : s.transferMethod with
    | displayControl => exact absurd method notControl
    | singleByteFixedAddress => exact .inl (by rw [st, method, single method]; rfl)
    | sixByteAutoAddress =>
      by_cases cursor : s.payloadCursor = 5
      · exact .inl (by rw [st, method, (six method).mpr cursor]; rfl)
      · exact .inr ⟨st, method, Bool.eq_false_iff.mpr (mt (six method).mp cursor), cursor⟩

/-- A boundary row keeps a transfer sequenced. -/
theorem Sequenced.boundary {s t : State} (seq : Sequenced s) (next : boundaryCase s.stopPending s = .next t) :
    Sequenced t := by
  rcases boundaryCase_cases next with ⟨st, _, rfl⟩ | ⟨st, _, rfl⟩ | ⟨_, _, _, rfl⟩ |
    ⟨st, six, stop, below, notLast, rfl⟩ | ⟨st, six, _, _, rfl⟩ | ⟨_, _, _, rfl⟩ | ⟨_, _, _, rfl⟩
  · obtain ⟨enabled, _, _, notControl, zero⟩ := (sequenced_iff st).mp seq
    exact (sequenced_iff rfl).mpr ⟨enabled, rfl, rfl, notControl, zero⟩
  · obtain ⟨enabled, _, _, notControl, zero⟩ := (sequenced_iff st).mp seq
    refine (sequenced_iff rfl).mpr ⟨enabled, rfl, notControl, fun single => decide_eq_true single, fun six => ?_⟩
    have noStop : (payloadFlags (s.setState .sendingPayloadBytes)).stopPending = false :=
      decide_eq_false fun single => by cases six.symm.trans single
    have cursor : (payloadFlags (s.setState .sendingPayloadBytes)).payloadCursor = 0 := zero six
    rw [noStop, cursor]
    decide
  · exact (sequenced_iff rfl).mpr rfl
  · obtain ⟨enabled, start, notControl, _, _⟩ := (sequenced_iff st).mp seq
    refine (sequenced_iff (s := s.setCursor ⟨s.payloadCursor.val + 1, below⟩) st).mpr
      ⟨enabled, start, notControl, fun single => (by cases six.symm.trans single), fun _ => ?_⟩
    have notFive : (⟨s.payloadCursor.val + 1, below⟩ : Fin 6) ≠ 5 := fun five => by
      have := congrArg Fin.val five
      simp only at this
      omega
    exact iff_of_false (by rw [setCursor_stopPending, stop]; decide) notFive
  · obtain ⟨enabled, start, notControl, _, _⟩ := (sequenced_iff st).mp seq
    exact (sequenced_iff (s := lastByteFlags (s.setCursor 5)) st).mpr
      ⟨enabled, start, notControl, fun _ => rfl, fun _ => iff_of_true rfl rfl⟩
  · exact (sequenced_iff rfl).mpr rfl
  · exact (sequenced_iff rfl).mpr rfl

/-- A boundary row leaves the lines where the next window, or the idle bus, has them. -/
theorem Sequenced.boundary_entryLines {s t : State} (seq : Sequenced s) (tick : s.tick = 0)
    (lines : s.linesAre s.stopPending s.stopPending) (next : boundaryCase s.stopPending s = .next t) :
    EntryLines t := by
  rcases boundaryCase_cases next with ⟨_, stop, rfl⟩ | ⟨_, stop, rfl⟩ | ⟨_, _, stop, rfl⟩ |
    ⟨st, _, stop, _, _, rfl⟩ | ⟨st, _, stop, _, rfl⟩ | ⟨_, _, stop, rfl⟩ | ⟨_, _, stop, rfl⟩ <;>
    rw [stop] at lines
  · exact ⟨nofun, nofun, fun _ _ => lines⟩
  · exact ⟨nofun, nofun, fun _ _ => lines⟩
  · exact ⟨fun _ => tick, fun _ => lines, fun busy => absurd rfl busy⟩
  · obtain ⟨_, start, _⟩ := (sequenced_iff st).mp seq
    exact ⟨fun _ => tick, fun ready => (by cases st.symm.trans ready), fun _ _ => start ▸ lines⟩
  · obtain ⟨_, start, _⟩ := (sequenced_iff st).mp seq
    exact ⟨fun _ => tick, fun ready => (by cases st.symm.trans ready), fun _ _ => start ▸ lines⟩
  · exact ⟨fun _ => tick, fun _ => lines, fun busy => absurd rfl busy⟩
  · exact ⟨fun _ => tick, fun _ => lines, fun busy => absurd rfl busy⟩

/-- Idle, and in the payload windows, no command byte is left to send. -/
theorem commandBytesMatch_of_state {s : State} (st : s.state = .ready ∨ s.state = .sendingPayloadBytes) :
    s.CommandBytesMatch := by
  rcases st with st | st <;> simp [State.CommandBytesMatch, st]

/-- A boundary row leaves the command bytes of the windows to come as they were loaded. -/
theorem commandBytesMatch_boundary {p : Bool} {s t : State} (bytes : s.CommandBytesMatch)
    (next : boundaryCase p s = .next t) : t.CommandBytesMatch := by
  obtain ⟨_, _, address, _⟩ := bytes
  rcases boundaryCase_cases next with ⟨st, _, rfl⟩ | ⟨_, _, rfl⟩ | ⟨_, _, _, rfl⟩ |
    ⟨st, _, _, _, _, rfl⟩ | ⟨st, _, _, _, rfl⟩ | ⟨_, _, _, rfl⟩ | ⟨_, _, _, rfl⟩
  · exact ⟨nofun, nofun, fun _ => address (.inl st), nofun⟩
  · exact commandBytesMatch_of_state (.inr rfl)
  · exact commandBytesMatch_of_state (.inl rfl)
  · exact commandBytesMatch_of_state (.inr st)
  · exact commandBytesMatch_of_state (.inr st)
  · exact commandBytesMatch_of_state (.inl rfl)
  · exact commandBytesMatch_of_state (.inl rfl)

/-! ### Requests -/

/-- A request that arms leaves a sequenced state. -/
theorem sequenced_of_arms {i : Instr} {s t : State} (arms : Arms i s t) : Sequenced t := by
  cases arms with
  | digit a v => exact (sequenced_iff rfl).mpr ⟨rfl, rfl, rfl, nofun, nofun⟩
  | all b => exact (sequenced_iff rfl).mpr ⟨rfl, rfl, rfl, nofun, fun _ => rfl⟩
  | control | power | brightness => exact (sequenced_iff rfl).mpr ⟨rfl, rfl, rfl, rfl⟩

/-- From the idle bus a first window begins, with its lines high and its start condition to come. -/
theorem entryLines_of_arms {i : Instr} {s t : State} (arms : Arms i s t) (idle : s.linesAre true true) :
    EntryLines t := by
  cases arms <;> exact ⟨nofun, nofun, fun _ _ => idle⟩

/-- The high digit of a display-control command is 8 (R64). -/
theorem ctrlByte_div (on : Bool) (level : BitVec 3) : (ctrlByte on level).toNat / 16 = 8 := by
  revert on level; decide

theorem armControl_commandBytesMatch (on : Bool) (level : BitVec 3) (s : State) :
    (armControl on level s).CommandBytesMatch := by
  have third : (armControl on level s).commandBytes[2] = ctrlByte on level := Vector.getElem_set_self ..
  exact ⟨nofun, nofun, nofun, fun _ => by rw [third, ctrlByte_div]⟩

/-- A request that arms has loaded the command bytes of its method. -/
theorem commandBytesMatch_of_arms {i : Instr} {s t : State} (arms : Arms i s t) : t.CommandBytesMatch := by
  cases arms with
  | digit a v =>
    rw [armSingle_eq]
    exact ⟨fun _ _ => rfl, nofun, fun _ => (addressByteOf_eq a).symm, nofun⟩
  | all b =>
    rw [armSix_eq]
    exact ⟨nofun, fun _ _ => rfl, fun _ => (by decide : (0xC0#8 : Byte) = addressByteOf 0), nofun⟩
  | control | power | brightness => exact armControl_commandBytesMatch ..

theorem inv_of_served {i : Instr} {s t : State} (served : Served i s t) (ready : s.state = .ready) (inv : s.Inv) :
    t.Inv := by
  cases served with
  | badPosition => exact inv
  | arms arms =>
    obtain ⟨_, ⟨_, idle, _⟩, _⟩ := (inv_iff s).mp inv
    exact (inv_iff t).mpr ⟨sequenced_of_arms arms, entryLines_of_arms arms (idle ready), commandBytesMatch_of_arms arms⟩

/-! ### Ticks -/

/-- A tick inside a window keeps the invariant: only the lines and the counter move. -/
theorem inv_of_shift {s t : State} {below : s.tick.val + 1 < 19} (inv : s.Inv) (busy : s.state ≠ .ready)
    (same : SameButLines (s.setTick ⟨s.tick.val + 1, below⟩) t) : t.Inv := by
  obtain ⟨seq, _, bytes⟩ := (inv_iff s).mp inv
  rw [same]
  refine (inv_iff _).mpr
    ⟨seq, ⟨fun ready => absurd ready busy, fun ready => absurd ready busy, fun _ zero => ?_⟩, bytes⟩
  exact absurd (congrArg Fin.val zero) (Nat.succ_ne_zero _)

/-- The last tick of a window keeps the invariant. -/
theorem inv_of_boundary {s e t : State} (inv : s.Inv) (same : SameButLines (s.setTick 0) e)
    (lines : e.linesAre s.stopPending s.stopPending) (next : boundaryCase s.stopPending e = .next t) : t.Inv := by
  obtain ⟨seq, _, bytes⟩ := (inv_iff s).mp inv
  have seqE : Sequenced e := by rw [same]; exact seq
  have bytesE : e.CommandBytesMatch := by rw [same]; exact bytes
  have stop : e.stopPending = s.stopPending := by rw [same]; rfl
  have tick : e.tick = 0 := by rw [same]; rfl
  rw [← stop] at lines next
  exact (inv_iff t).mpr ⟨seqE.boundary next, seqE.boundary_entryLines tick lines next,
    commandBytesMatch_boundary bytesE next⟩

/-- In every sequenced state a delivered tick finds a row where it needs one, and so completes. -/
theorem Sequenced.tick_next {s : State} (seq : Sequenced s) (runs : tickRuns s = true) : ∃ t, step s = .next t := by
  have busy : s.state ≠ .ready := fun ready => by
    have stopped := (sequenced_iff ready).mp seq
    rw [SequencedIn, tickEnable_of_runs runs] at stopped
    cases stopped
  obtain ⟨B, byte⟩ := exists_currentByte busy
  rw [step_tick runs byte]
  by_cases below : s.tick.val + 1 < 19
  · obtain ⟨t, shifted, _⟩ := tickStep_below B (tickEnable_of_runs runs) busy below
    exact ⟨t, shifted⟩
  · obtain ⟨e, wrapped, same, _⟩ := tickStep_last B (tickEnable_of_runs runs) busy (by omega)
    obtain ⟨u, row⟩ := boundaryCase_of_hasRow (s := s.setTick 0) (seq.hasRow busy)
    obtain ⟨t, next, _⟩ := boundaryCase_sameButLines same row
    exact ⟨t, wrapped.trans next⟩

/-- HOST's next call is no fault, whatever it is. -/
theorem step_host_ne_fault {s : State} {c : HostCall} {rest : List HostCall} (ready : s.state = .ready)
    (stopped : s.tickEnable = false) (calls : s.hostCalls = c :: rest) (r : Fault) : step s ≠ .fault r := by
  cases request : c.call.isRequest with
  | true =>
    rw [step_host ready stopped calls request]
    exact exec_request_ne_fault request _ r
  | false =>
    rw [step_notARequest ready stopped calls request]
    exact nofun

/-! ### The obligations -/

/-- Settles O45: the reset state is idle, and in `Ready` the invariant asks for no more. -/
theorem resetMeetsTheInvariant : Obligations.ResetMeetsTheInvariant := by
  intro on level cmd pay
  exact (inv_iff _).mpr ⟨(sequenced_iff rfl).mpr rfl,
    ⟨fun _ => rfl, fun _ => ⟨rfl, rfl⟩, fun busy => absurd rfl busy⟩, commandBytesMatch_of_state (.inl rfl)⟩

/-- Settles O46: a tick keeps it by the branch of the counter, a request by what it arms. -/
theorem everyStepKeepsTheInvariant : Obligations.EveryStepKeepsTheInvariant := by
  intro s t inv next
  rcases step_cases next with runs | ⟨c, rest, ready, _, _, request, call⟩ | rfl
  · obtain ⟨busy, ⟨_, same⟩ | ⟨_, e, same, lines, row⟩⟩ := tick_step_cases runs next
    · exact inv_of_shift inv busy same
    · exact inv_of_boundary inv same lines row
  · have taken : ({ s with hostCalls := rest } : State).Inv := inv
    rcases request_cases request call with ⟨busy, _⟩ | ⟨_, served⟩
    · exact absurd ready busy
    · exact inv_of_served served ready taken
  · exact inv

/-- Settles O47: the invariant gives every window's boundary a row, and covered calls always complete. -/
theorem invariantStatesNeverStop : Obligations.InvariantStatesNeverStop := by
  intro s inv
  obtain ⟨seq, _, _⟩ := (inv_iff s).mp inv
  rcases turn_cases s with runs | ⟨c, rest, ready, stopped, calls⟩ | holds
  · obtain ⟨t, next⟩ := seq.tick_next runs
    refine ⟨fun r => by rw [next]; exact nofun, fun covered => ⟨t, next, ?_⟩⟩
    rw [State.CallsCovered, (tick_frame runs next).hostCalls]
    exact covered
  · refine ⟨step_host_ne_fault ready stopped calls, fun covered => ?_⟩
    rw [State.CallsCovered, calls] at covered
    have callCovered := covered c List.mem_cons_self
    have request := isRequest_of_covered callCovered
    obtain ⟨t, next⟩ := exec_of_covered callCovered { s with hostCalls := rest }
    have left : t.hostCalls = rest := (request_wireFrame request next).hostCalls
    refine ⟨t, (step_host ready stopped calls request).trans next, fun d among => covered d (List.mem_cons_of_mem _ ?_)⟩
    rwa [left] at among
  · rw [step_hold holds]
    exact ⟨nofun, fun covered => ⟨s, rfl, covered⟩⟩

end Sys2Proof.Proofs.Invariant
end

section
/-! PROOFS. Whole transfers (spec 42_window_boundary.md section 4; 70_reset_and_hazards.md section 4): the windows a
transfer has left, one fewer after every nineteen steps, and what stands at its end. -/

namespace Sys2Proof.Proofs.Transfer

open Sys2Proof Sys2Proof.Machine Sys2Proof.Proofs.Requests Sys2Proof.Proofs.TickStep Sys2Proof.Proofs.BoundaryRow
  Sys2Proof.Proofs.Window Sys2Proof.Proofs.WindowEvents Sys2Proof.Proofs.Frames Sys2Proof.Proofs.Invariant

/-! ### The windows a transfer has left -/

/-- One byte window: whether a start condition begins it, its byte, and whether a stop condition ends it. -/
structure ByteWindow where
  start : Level
  byte : Byte
  stop : Level

/-- What the window adds to the level trace. -/
def ByteWindow.levels (w : ByteWindow) : List LinePair := windowLevels w.start w.byte w.stop

/-- What a receiver reads off the window. -/
def ByteWindow.events (w : ByteWindow) : List WireEvent := startEvents w.start ++ byteEvents w.byte ++ stopEvents w.stop

theorem ByteWindow.leads (w : ByteWindow) : Leads ⟨w.start, w.start⟩ w.levels ⟨w.stop, w.stop⟩ w.events :=
  leads_windowLevels w.start w.byte w.stop

/-- The payload windows from the cursor on (R131): one byte, or the rest of the six, of which the last has the stop. -/
def payloadWindows (s : State) : List ByteWindow :=
  match s.transferMethod with
  | .sixByteAutoAddress =>
    ((List.finRange 6).drop s.payloadCursor.val).map fun a => ⟨false, s.payloadBytes[a], decide (a = 5)⟩
  | _ => [⟨false, s.payloadBytes[s.payloadCursor], true⟩]

/-- The windows left in a given protocol state, the current one first (R131). -/
def windowsIn (s : State) : EngineState → List ByteWindow
  | .ready => []
  | .sendingDataCmd => ⟨true, s.commandBytes[0], true⟩ :: ⟨true, s.commandBytes[1], false⟩ :: payloadWindows s
  | .sendingAddressCmd => ⟨true, s.commandBytes[1], false⟩ :: payloadWindows s
  | .sendingDisplayCtrlCmd => [⟨true, s.commandBytes[2], true⟩]
  | .sendingPayloadBytes => payloadWindows s

/-- The windows a transfer has still to send. -/
def windowsLeft (s : State) : List ByteWindow := windowsIn s s.state

theorem windowsLeft_eq {s : State} {st : EngineState} (isState : s.state = st) : windowsLeft s = windowsIn s st := by
  rw [windowsLeft, isState]

theorem windowsLeft_of_sameButLines {s t : State} (same : SameButLines s t) : windowsLeft t = windowsLeft s := by
  rw [same]; rfl

theorem payloadWindows_single {s : State} (method : s.transferMethod = .singleByteFixedAddress) :
    payloadWindows s = [⟨false, s.payloadBytes[s.payloadCursor], true⟩] := by
  simp only [payloadWindows, method]

theorem payloadWindows_six {s : State} (method : s.transferMethod = .sixByteAutoAddress) :
    payloadWindows s =
      ((List.finRange 6).drop s.payloadCursor.val).map fun a => ⟨false, s.payloadBytes[a], decide (a = 5)⟩ := by
  simp only [payloadWindows, method]

/-- The six-byte transfer's first payload window is that of the cursor. -/
theorem payloadWindows_six_cons {s : State} (method : s.transferMethod = .sixByteAutoAddress) :
    payloadWindows s = ⟨false, s.payloadBytes[s.payloadCursor], decide (s.payloadCursor = 5)⟩ ::
      ((List.finRange 6).drop (s.payloadCursor.val + 1)).map fun a => ⟨false, s.payloadBytes[a], decide (a = 5)⟩ := by
  have inRange : s.payloadCursor.val < (List.finRange 6).length := s.payloadCursor.isLt
  rw [payloadWindows_six method, List.drop_eq_getElem_cons inRange, List.getElem_finRange, List.map_cons]
  rfl

/-- A boundary takes off the window it ends, which had the flags and the byte of the state it ended in. -/
theorem windowsLeft_boundary {s t : State} {B : Byte} (seq : Sequenced s) (byte : currentByte s = some B)
    (next : boundaryCase s.stopPending s = .next t) :
    windowsLeft s = ⟨s.startPending, B, s.stopPending⟩ :: windowsLeft t := by
  rcases boundaryCase_cases next with ⟨st, stop, rfl⟩ | ⟨st, stop, rfl⟩ | ⟨st, single, stop, rfl⟩ |
    ⟨st, six, stop, below, notLast, rfl⟩ | ⟨st, six, stop, last, rfl⟩ | ⟨st, six, stop, rfl⟩ | ⟨st, _, stop, rfl⟩ <;>
    rw [stop] <;> simp only [currentByte, st, Option.some.injEq] at byte <;> subst byte
  · obtain ⟨_, start, _⟩ := (sequenced_iff st).mp seq
    rw [start, windowsLeft_eq st]; rfl
  · obtain ⟨_, start, _⟩ := (sequenced_iff st).mp seq
    rw [start, windowsLeft_eq st]; rfl
  · obtain ⟨_, start, _⟩ := (sequenced_iff st).mp seq
    rw [start, windowsLeft_eq st, windowsIn, payloadWindows_single single]; rfl
  · obtain ⟨_, start, _⟩ := (sequenced_iff st).mp seq
    have notFive : s.payloadCursor ≠ 5 := fun five => by rw [five] at below; exact absurd below (by decide)
    have moved : (s.setCursor ⟨s.payloadCursor.val + 1, below⟩).state = .sendingPayloadBytes := st
    rw [start, windowsLeft_eq st, windowsLeft_eq moved, windowsIn, payloadWindows_six_cons six, windowsIn,
      payloadWindows_six (by exact six), decide_eq_false notFive]
    rfl
  · obtain ⟨_, start, _⟩ := (sequenced_iff st).mp seq
    have notFive : s.payloadCursor ≠ 5 := fun five => by rw [five] at last; exact absurd last (by decide)
    have moved : (lastByteFlags (s.setCursor 5)).state = .sendingPayloadBytes := st
    rw [start, windowsLeft_eq st, windowsLeft_eq moved, windowsIn, payloadWindows_six_cons six, windowsIn,
      payloadWindows_six (by exact six), decide_eq_false notFive, last]
    rfl
  · obtain ⟨_, start, _, _, atFive⟩ := (sequenced_iff st).mp seq
    have five := (atFive six).mp stop
    have noMore : (List.finRange 6).drop (s.payloadCursor.val + 1) = [] := by rw [five]; rfl
    rw [start, windowsLeft_eq st, windowsIn, payloadWindows_six_cons six, decide_eq_true five, noMore]
    rfl
  · obtain ⟨_, start, _⟩ := (sequenced_iff st).mp seq
    rw [start, windowsLeft_eq st]; rfl

/-! ### The run of one window -/

/-- Under the fairness assumption a started timer has a next tick (R7, R89, R176). -/
theorem tickRuns_of_live {s : State} (live : s.Live) (enabled : s.tickEnable = true) : tickRuns s = true := by
  obtain ⟨fed, foreground⟩ := live
  have unblocked : tickBlocked s = false := by
    unfold tickBlocked
    split
    · rfl
    case h_2 c rest calls => rw [foreground c (calls ▸ List.mem_cons_self)]; rfl
  rw [tickRuns, enabled, fed, unblocked]; rfl

theorem live_of_eq {s t : State} (live : s.Live) (calls : t.hostCalls = s.hostCalls)
    (starved : t.tickStarved = s.tickStarved) : t.Live := by
  unfold State.Live
  rw [calls, starved]
  exact live

/-- What the flags and the cursor have come to when a transfer is over (R124, R127, R128; D20). -/
structure Ended (s : State) : Prop where
  stop : s.stopPending = true
  start : s.startPending = decide (s.transferMethod = .displayControl)
  cursor : s.transferMethod = .sixByteAutoAddress → s.payloadCursor = 5

theorem ended_of_boundary {s t : State} (seq : Sequenced s) (next : boundaryCase s.stopPending s = .next t)
    (ready : t.state = .ready) : Ended t := by
  rcases boundaryCase_cases next with ⟨_, _, rfl⟩ | ⟨_, _, rfl⟩ | ⟨st, single, stop, rfl⟩ |
    ⟨st, _, _, _, _, rfl⟩ | ⟨st, _, _, _, rfl⟩ | ⟨st, six, stop, rfl⟩ | ⟨st, control, stop, rfl⟩
  · cases ready
  · cases ready
  · obtain ⟨_, start, notControl, _⟩ := (sequenced_iff st).mp seq
    exact ⟨stop, start.trans (decide_eq_false notControl).symm, fun six => by cases single.symm.trans six⟩
  · cases st.symm.trans ready
  · cases st.symm.trans ready
  · obtain ⟨_, start, notControl, _, atFive⟩ := (sequenced_iff st).mp seq
    exact ⟨stop, start.trans (decide_eq_false notControl).symm, fun _ => (atFive six).mp stop⟩
  · obtain ⟨_, start, _⟩ := (sequenced_iff st).mp seq
    exact ⟨stop, start.trans (decide_eq_true control).symm, fun six => by cases control.symm.trans six⟩

/-- The nineteen steps of the window w lead from its start in s to the state t. -/
structure WindowRun (s : State) (w : ByteWindow) (t : State) : Prop where
  run : core.run 19 s = .next t
  windows : windowsLeft s = w :: windowsLeft t
  start : w.start = s.startPending
  sequenced : Sequenced t
  entry : EntryLines t
  tick : t.tick = 0
  frame : TickFrame s t
  lines : t.linesAre w.stop w.stop
  trace : s.linesAre s.startPending s.startPending → t.levelTrace = s.levelTrace ++ w.levels
  ended : t.state = .ready → Ended t

/-- A sequenced transfer's window runs to its end. -/
theorem exists_windowRun {s : State} (seq : Sequenced s) (busy : s.state ≠ .ready) (first : s.tick = 0)
    (live : s.Live) : ∃ w t, WindowRun s w t := by
  obtain ⟨B, byte⟩ := exists_currentByte busy
  obtain ⟨e, run, same, lines, trace⟩ := run_window (tickRuns_of_live live (seq.enabled busy)) first byte
  have stop : e.stopPending = s.stopPending := by rw [same]
  have start : e.startPending = s.startPending := by rw [same]
  have tick : e.tick = 0 := by rw [same]; exact first
  have seqE : Sequenced e := by rw [same]; exact seq
  have byteE := (currentByte_of_sameButLines same).trans byte
  obtain ⟨t, next⟩ := boundaryCase_of_hasRow (hasRow_of_sameButLines (seq.hasRow busy) same)
  have frame := boundaryCase_frame next
  have wrapped : SameButLines (s.setTick 0) e := by rw [← first]; exact same
  rw [← stop] at run lines
  refine ⟨⟨s.startPending, B, s.stopPending⟩, t, run.trans next, ?_, rfl, seqE.boundary next,
    seqE.boundary_entryLines tick lines next, frame.tick.trans tick, .of_boundary wrapped next, ?_, fun entry => ?_,
    ended_of_boundary seqE next⟩
  · rw [← windowsLeft_of_sameButLines same, windowsLeft_boundary seqE byteE next, start, stop]
  · rw [stop] at lines
    exact ⟨frame.clockLine.trans lines.1, frame.dataLine.trans lines.2⟩
  · rw [frame.levelTrace, trace entry]; rfl

/-- Inside a window the transfer is running, and HOST's list is as it was. -/
theorem run_inside_window {s : State} (seq : Sequenced s) (busy : s.state ≠ .ready) (first : s.tick = 0)
    (live : s.Live) {k : Nat} (inside : k < 19) :
    ∃ v : State, core.run k s = .next v ∧ v.state ≠ .ready ∧ v.tickEnable = true ∧ v.hostCalls = s.hostCalls := by
  obtain ⟨B, byte⟩ := exists_currentByte busy
  obtain ⟨v, run, mid⟩ := run_midWindow (tickRuns_of_live live (seq.enabled busy)) first byte k inside
  refine ⟨v, run, ?_⟩
  rw [mid.same]
  exact ⟨busy, seq.enabled busy, rfl⟩

/-! ### The run of a transfer -/

/-- Nineteen steps per window left lead from the window's start s to the end u of the transfer, and not before. -/
structure TransferRun (s u : State) : Prop where
  run : core.run (19 * (windowsLeft s).length) s = .next u
  ready : u.state = .ready
  stopped : u.tickEnable = false
  tick : u.tick = 0
  lines : u.linesAre true true
  frame : TickFrame s u
  ended : Ended u
  trace : s.linesAre s.startPending s.startPending →
    u.levelTrace = s.levelTrace ++ (windowsLeft s).flatMap ByteWindow.levels ∧
    Leads ⟨s.startPending, s.startPending⟩ ((windowsLeft s).flatMap ByteWindow.levels) ⟨true, true⟩
      ((windowsLeft s).flatMap ByteWindow.events)
  before : ∀ k, k < 19 * (windowsLeft s).length →
    ∃ v : State, core.run k s = .next v ∧ v.state ≠ .ready ∧ v.tickEnable = true ∧ v.hostCalls = s.hostCalls

/-- A window that ends in `Ready` is a transfer of one window. -/
theorem WindowRun.last {s t : State} {w : ByteWindow} (window : WindowRun s w t) (seq : Sequenced s)
    (busy : s.state ≠ .ready) (first : s.tick = 0) (live : s.Live) (ready : t.state = .ready) : TransferRun s t := by
  obtain ⟨tick, idle, _⟩ := window.entry
  have one : windowsLeft s = [w] := by rw [window.windows, windowsLeft_eq ready, windowsIn]
  have high : w.stop = true := window.lines.1.symm.trans (idle ready).1
  have leads := w.leads
  rw [high, window.start] at leads
  refine ⟨?_, ready, (sequenced_iff ready).mp window.sequenced, tick ready, idle ready, window.frame,
    window.ended ready, fun entry => ?_, fun k before => ?_⟩
  · rw [one]; exact window.run
  · rw [one, List.flatMap_singleton, List.flatMap_singleton]
    exact ⟨window.trace entry, leads⟩
  · rw [one] at before
    exact run_inside_window seq busy first live before

/-- A window before a transfer is a transfer of one window more. -/
theorem WindowRun.cons {s t u : State} {w : ByteWindow} (window : WindowRun s w t) (seq : Sequenced s)
    (busy : s.state ≠ .ready) (first : s.tick = 0) (live : s.Live) (more : t.state ≠ .ready)
    (rest : TransferRun t u) : TransferRun s u := by
  obtain ⟨_, _, window_lines⟩ := window.entry
  have entryT := window_lines more window.tick
  have joint : w.stop = t.startPending := window.lines.1.symm.trans entryT.1
  have length : 19 * (windowsLeft s).length = 19 + 19 * (windowsLeft t).length := by
    rw [window.windows, List.length_cons]; omega
  refine ⟨?_, rest.ready, rest.stopped, rest.tick, rest.lines, window.frame.trans rest.frame, rest.ended,
    fun entry => ?_, fun k before => ?_⟩
  · rw [length, run_add _ _ window.run, rest.run]
  · obtain ⟨added, leads⟩ := rest.trace entryT
    have first := w.leads
    rw [joint, window.start] at first
    rw [window.windows, List.flatMap_cons, List.flatMap_cons, added, window.trace entry, List.append_assoc]
    exact ⟨rfl, first.append leads⟩
  · by_cases inside : k < 19
    · exact run_inside_window seq busy first live inside
    · obtain ⟨v, run, running⟩ := rest.before (k - 19) (by omega)
      rw [window.frame.hostCalls] at running
      refine ⟨v, ?_, running⟩
      rw [← run, ← run_add 19 (k - 19) window.run, Nat.add_sub_cancel' (Nat.le_of_not_lt inside)]

/-- Every sequenced transfer at a window's start runs to its end. -/
theorem exists_transferRun {s : State} (seq : Sequenced s) (busy : s.state ≠ .ready) (first : s.tick = 0)
    (live : s.Live) : ∃ u, TransferRun s u := by
  induction windows : windowsLeft s generalizing s with
  | nil =>
    obtain ⟨w, t, window⟩ := exists_windowRun seq busy first live
    cases windows.symm.trans window.windows
  | cons w ws ih =>
    obtain ⟨w, t, window⟩ := exists_windowRun seq busy first live
    by_cases ready : t.state = .ready
    · exact ⟨t, window.last seq busy first live ready⟩
    · have left : windowsLeft t = ws := (List.cons.inj (windows.symm.trans window.windows)).2.symm
      obtain ⟨u, rest⟩ := ih window.sequenced ready window.tick
        (live_of_eq live window.frame.hostCalls window.frame.tickStarved) left
      exact ⟨u, window.cons seq busy first live ready rest⟩

end Sys2Proof.Proofs.Transfer
end

section
/-! PROOFS. What an armed transfer puts on the wire (spec 42_window_boundary.md section 4; 20_memory.md section 3), and
what HOST sees of it (spec 40_requests.md sections 1 and 4). -/

namespace Sys2Proof.Proofs.OnTheWire

open Sys2Proof Sys2Proof.Machine Sys2Proof.Proofs.Requests Sys2Proof.Proofs.Arming Sys2Proof.Proofs.Frames
  Sys2Proof.Proofs.Invariant Sys2Proof.Proofs.Window Sys2Proof.Proofs.WindowEvents Sys2Proof.Proofs.Transfer

/-! ### The transfer a request arms -/

section Armed

variable {i : Instr} {s t : State}

theorem Arms.busy (arms : Arms i s t) : t.state ≠ .ready := by
  cases arms <;> exact nofun

/-- A request that does not leave `Ready` behind has armed nothing. -/
theorem arms_of_busy (request : i.isRequest = true) (ready : s.state = .ready) (next : exec i s = .next t)
    (busy : t.state ≠ .ready) : Arms i s t := by
  rcases request_cases request next with ⟨notReady, _⟩ | ⟨_, served⟩
  · exact absurd ready notReady
  · cases served with
    | badPosition => exact absurd ready busy
    | arms arms => exact arms

theorem windowsLeft_length_of_arms (arms : Arms i s t) : (windowsLeft t).length = transferBytes t.transferMethod := by
  cases arms <;> rfl

/-- The transfer a request arms runs to its end (R131). -/
theorem exists_transferRun_of_arms (arms : Arms i s t) (tick : s.tick = 0) (live : s.Live) : ∃ u, TransferRun t u :=
  exists_transferRun (sequenced_of_arms arms) (Arms.busy arms) (arms.wireFrame.tick.trans tick)
    (live_of_eq live arms.wireFrame.hostCalls arms.wireFrame.tickStarved)

end Armed

/-- Settles O50: by induction on the windows left, each of which takes nineteen steps. -/
theorem transferTakesNineteenTicksPerByte : Obligations.TransferTakesNineteenTicksPerByte := by
  intro i s t request ready tick live next busy
  have arms := arms_of_busy request ready next busy
  obtain ⟨u, transfer⟩ := exists_transferRun_of_arms arms tick live
  rw [← windowsLeft_length_of_arms arms]
  refine ⟨⟨u, transfer.run, transfer.ready, transfer.stopped, transfer.tick, transfer.lines,
    transfer.frame.commandBytes, transfer.frame.payloadBytes, transfer.frame.hostCalls, transfer.frame.results⟩,
    fun k before => ?_⟩
  obtain ⟨v, run, running, enabled, _⟩ := transfer.before k before
  exact ⟨v, run, running, enabled⟩

/-- Settles O51: no step of the transfer touches HOST's list, and its end is `Ready` with the timer stopped. -/
theorem queuedCallRunsWhenTheTransferEnds : Obligations.QueuedCallRunsWhenTheTransferEnds := by
  intro i c rest s t request ready tick live calls callRequest next busy
  have arms := arms_of_busy request ready next busy
  obtain ⟨u, transfer⟩ := exists_transferRun_of_arms arms tick live
  have queued : t.hostCalls = c :: rest := arms.wireFrame.hostCalls.trans calls
  rw [← windowsLeft_length_of_arms arms]
  refine ⟨u, transfer.run, transfer.frame.commandBytes, transfer.frame.payloadBytes, transfer.frame.results,
    step_host transfer.ready transfer.stopped (transfer.frame.hostCalls.trans queued) callRequest, fun k before => ?_⟩
  obtain ⟨v, run, _, _, waits⟩ := transfer.before k before
  exact ⟨v, run, waits.trans queued⟩

/-! ### Reading frames back -/

/-- The eight levels of a byte, least significant first, are the byte (R43). -/
theorem collectByte_bits (B : Byte) :
    collectByte [bitOf B 0, bitOf B 1, bitOf B 2, bitOf B 3, bitOf B 4, bitOf B 5, bitOf B 6, bitOf B 7] = B := by
  have bit (i : Nat) : (bitOf B i).toNat = B.toNat / 2 ^ i % 2 := Nat.toNat_testBit B.toNat i
  have small := B.isLt
  apply BitVec.eq_of_toNat_eq
  simp only [collectByte, bit, BitVec.toNat_ofNat]
  omega

/-- A byte's nine clocks are read as one more byte of the frame. -/
theorem readFrames_byteEvents (frame : List Byte) (B : Byte) (rest : List WireEvent) :
    readFrames [] frame (byteEvents B ++ rest) = readFrames [] (frame ++ [B]) rest := by
  simp [byteEvents, readFrames, collectByte_bits]

theorem readFrames_bytes (frame bytes : List Byte) (rest : List WireEvent) :
    readFrames [] frame (bytes.flatMap byteEvents ++ rest) = readFrames [] (frame ++ bytes) rest := by
  induction bytes generalizing frame with
  | nil => rw [List.flatMap_nil, List.nil_append, List.append_nil]
  | cons B bytes ih => rw [List.flatMap_cons, List.append_assoc, readFrames_byteEvents, ih, List.append_assoc]; rfl

/-- The clock rise before a stop is no byte: it is dropped (R109). -/
theorem readFrames_frameEvents (bytes : List Byte) (rest : List WireEvent) :
    readFrames [] [] (frameEvents bytes ++ rest) = bytes :: readFrames [] [] rest := by
  rw [frameEvents, List.cons_append, List.cons_append, List.append_assoc, readFrames, readFrames_bytes]
  rfl

/-- A receiver reads back the frames that were sent. -/
theorem readFrames_flatMap (frames : List (List Byte)) :
    readFrames [] [] (frames.flatMap frameEvents) = frames := by
  induction frames with
  | nil => rfl
  | cons bytes frames ih => rw [List.flatMap_cons, readFrames_frameEvents, ih]

/-! ### Their intended effect on the display memory (R47) -/

theorem intendedWrites_fixed (auto : Bool) (frames : List (List Byte)) :
    intendedWrites auto ([Config.dataCmdFixed] :: frames) = intendedWrites false frames := rfl

theorem intendedWrites_auto (auto : Bool) (frames : List (List Byte)) :
    intendedWrites auto ([Config.dataCmdAuto] :: frames) = intendedWrites true frames := rfl

/-- An address command is none of the data commands, and carries its address in the low three bits (R63). -/
theorem addressByteOf_fields (a : Fin 6) : addressByteOf a ≠ Config.dataCmdFixed ∧
    addressByteOf a ≠ Config.dataCmdAuto ∧ (addressByteOf a).toNat / 64 = 3 ∧ (addressByteOf a).toNat % 8 = a.val := by
  revert a; decide

theorem intendedWrites_address (auto : Bool) (a : Fin 6) (data : List Byte) (frames : List (List Byte)) :
    intendedWrites auto ((addressByteOf a :: data) :: frames) =
      memWrites auto a.val data ++ intendedWrites auto frames := by
  obtain ⟨notFixed, notAuto, isAddress, address⟩ := addressByteOf_fields a
  rw [intendedWrites, if_neg notFixed, if_neg notAuto, if_pos isAddress, address]

/-- A display-control command is neither a data command nor an address command (R64). -/
theorem ctrlByte_fields (on : Bool) (level : BitVec 3) : ctrlByte on level ≠ Config.dataCmdFixed ∧
    ctrlByte on level ≠ Config.dataCmdAuto ∧ (ctrlByte on level).toNat / 64 ≠ 3 := by
  revert on level; decide

theorem intendedWrites_control (auto : Bool) (on : Bool) (level : BitVec 3) (frames : List (List Byte)) :
    intendedWrites auto ([ctrlByte on level] :: frames) = intendedWrites auto frames := by
  obtain ⟨notFixed, notAuto, notAddress⟩ := ctrlByte_fields on level
  rw [intendedWrites, if_neg notFixed, if_neg notAuto, if_neg notAddress]

/-! ### The windows of each method -/

theorem windowsLeft_armSingle (a : Fin 6) (v : Byte) (s : State) : windowsLeft (armSingle a v s) =
    [⟨true, Config.dataCmdFixed, true⟩, ⟨true, addressByteOf a, false⟩, ⟨false, v, true⟩] := by
  have cmd : (armSingle a v s).commandBytes = #v[Config.dataCmdFixed, addressByteOf a, s.commandBytes[2]] :=
    set_zero_set_one ..
  have byte : (armSingle a v s).payloadBytes[(armSingle a v s).payloadCursor] = v := Vector.getElem_set_self ..
  rw [windowsLeft_eq (st := .sendingDataCmd) rfl, windowsIn, payloadWindows_single rfl, cmd, byte]
  rfl

theorem windowsLeft_armSix (b : Vector Byte 6) (s : State) : windowsLeft (armSix b s) =
    [⟨true, Config.dataCmdAuto, true⟩, ⟨true, addressByteOf 0, false⟩, ⟨false, b[3], false⟩, ⟨false, b[4], false⟩,
      ⟨false, b[5], false⟩, ⟨false, b[0], false⟩, ⟨false, b[1], false⟩, ⟨false, b[2], true⟩] := by
  have cmd : (armSix b s).commandBytes = #v[Config.dataCmdAuto, addressByteOf 0, s.commandBytes[2]] :=
    set_zero_set_one ..
  rw [windowsLeft_eq (st := .sendingDataCmd) rfl, windowsIn, payloadWindows_six rfl, cmd]
  rfl

theorem windowsLeft_armControl (on : Bool) (level : BitVec 3) (s : State) :
    windowsLeft (armControl on level s) = [⟨true, ctrlByte on level, true⟩] := by
  have byte : (armControl on level s).commandBytes[2] = ctrlByte on level := Vector.getElem_set_self ..
  rw [windowsLeft_eq (st := .sendingDisplayCtrlCmd) rfl, windowsIn, byte]

/-- From the idle bus a transfer adds to the trace what a receiver reads as the frames of its windows. -/
theorem exists_frames_of_transferRun {t u : State} {frames : List (List Byte)} (transfer : TransferRun t u)
    (start : t.startPending = true) (idle : t.linesAre true true)
    (sent : (windowsLeft t).flatMap ByteWindow.events = frames.flatMap frameEvents) :
    ∃ new, u.levelTrace = t.levelTrace ++ new ∧ wireEvents ⟨true, true⟩ new = frames.flatMap frameEvents ∧
      readFrames [] [] (wireEvents ⟨true, true⟩ new) = frames := by
  obtain ⟨added, leads⟩ := transfer.trace (by rw [start]; exact idle)
  rw [start, sent] at leads
  exact ⟨_, added, leads.events, by rw [leads.events, readFrames_flatMap]⟩

/-! ### The obligations -/

/-- Settles O52: the three windows of the single-byte method are two frames. -/
theorem setDigitOnTheWire : Obligations.SetDigitOnTheWire := by
  intro s d v ready tick idle live
  obtain ⟨u, transfer⟩ := exists_transferRun_of_arms (i := .setDigit d.val v) (.digit (perm d) v) tick live
  have run := transfer.run
  rw [windowsLeft_armSingle] at run
  obtain ⟨new, added, events, read⟩ := exists_frames_of_transferRun (frames := singleFrames (perm d) v) transfer
    rfl idle (by rw [windowsLeft_armSingle]; rfl)
  refine ⟨_, u, new, exec_setDigit ready d v, run, added, events, read, fun auto => ?_⟩
  rw [read, singleFrames, intendedWrites_fixed, intendedWrites_address]
  rfl

/-- Settles O53: the eight windows of the six-byte method are two frames, the payload in address order. -/
theorem armAllOnTheWire : Obligations.ArmAllOnTheWire := by
  intro s b ready tick idle live
  obtain ⟨u, transfer⟩ := exists_transferRun_of_arms (i := .armAll b) (.all b) tick live
  have run := transfer.run
  rw [windowsLeft_armSix] at run
  obtain ⟨new, added, events, read⟩ := exists_frames_of_transferRun
    (frames := sixFrames #v[b[3], b[4], b[5], b[0], b[1], b[2]]) transfer rfl idle (by rw [windowsLeft_armSix]; rfl)
  refine ⟨_, u, new, exec_armAll ready b, run, added, events, ?_, fun auto => ?_⟩
  · rw [read]; rfl
  · rw [read, sixFrames, intendedWrites_auto, intendedWrites_address]
    rfl

/-- Settles O54: the one window of the display-control method is one frame, which addresses no cell. -/
theorem setPowerOnTheWire : Obligations.SetPowerOnTheWire := by
  intro s on ready tick idle live
  obtain ⟨u, transfer⟩ := exists_transferRun_of_arms (.power on rfl) tick live
  have run := transfer.run
  rw [windowsLeft_armControl] at run
  obtain ⟨new, added, events, read⟩ := exists_frames_of_transferRun (frames := controlFrames on s.brightness) transfer
    rfl idle (by rw [windowsLeft_armControl]; rfl)
  refine ⟨_, u, new, exec_setPower ready on, run, added, events, read, fun auto => ?_⟩
  rw [read, controlFrames, intendedWrites_control]
  rfl

/-- Arming the same six bytes again loads the same command bytes. -/
theorem armSix_commandBytes_again {b : Vector Byte 6} {s u : State}
    (loaded : u.commandBytes = (armSix b s).commandBytes) : (armSix b u).commandBytes = u.commandBytes := by
  rw [armSix_eq] at loaded ⊢
  rw [loaded]
  rfl

/-- Two six-byte transfers of the same bytes, one after the other, end in the same state but for the output logs. -/
theorem armSix_twice {b : Vector Byte 6} {s u w : State} (once : TransferRun (armSix b s) u)
    (twice : TransferRun (armSix b u) w) :
    w = { u with levelTrace := w.levelTrace, results := u.results ++ [.ok] } := by
  have cmd := twice.frame.commandBytes.trans (armSix_commandBytes_again once.frame.commandBytes)
  have pay := twice.frame.payloadBytes.trans once.frame.payloadBytes.symm
  have method := twice.frame.transferMethod.trans once.frame.transferMethod.symm
  have cursor := (twice.ended.cursor twice.frame.transferMethod).trans
    (once.ended.cursor once.frame.transferMethod).symm
  have start : w.startPending = u.startPending := by rw [twice.ended.start, once.ended.start, method]
  have stop := twice.ended.stop.trans once.ended.stop.symm
  have clk := twice.lines.1.trans once.lines.1.symm
  have dio := twice.lines.2.trans once.lines.2.symm
  have tick := twice.tick.trans once.tick.symm
  have state := twice.ready.trans once.ready.symm
  have stopped := twice.stopped.trans once.stopped.symm
  have calls := twice.frame.hostCalls
  have on := twice.frame.displayOn
  have level := twice.frame.brightness
  have starved := twice.frame.tickStarved
  have results := twice.frame.results
  obtain ⟨_, _, _, _, _, _, _, _, _, _, _, _, _, _, _, _, _⟩ := w
  simp only [State.mk.injEq]
  exact ⟨cmd, pay, tick, cursor, state, start, stop, method, on, level, stopped, clk, dio, trivial, results, calls,
    starved⟩

/-- Settles O55: both transfers have the same windows, and their ends agree field by field. -/
theorem clearAllTwiceIsIdempotent : Obligations.ClearAllTwiceIsIdempotent := by
  intro s ready tick idle live
  obtain ⟨u, once⟩ := exists_transferRun_of_arms (i := .clearAll) (.all zeroBytes) tick live
  obtain ⟨w, twice⟩ := exists_transferRun_of_arms (i := .clearAll) (.all zeroBytes) once.tick
    (live_of_eq live once.frame.hostCalls once.frame.tickStarved)
  have runOnce := once.run
  have runTwice := twice.run
  obtain ⟨addedOnce, _⟩ := once.trace idle
  obtain ⟨addedTwice, _⟩ := twice.trace once.lines
  rw [windowsLeft_armSix] at runOnce addedOnce
  rw [windowsLeft_armSix] at runTwice addedTwice
  exact ⟨_, u, _, w, _, exec_clearAll ready, runOnce, exec_clearAll once.ready, runTwice, addedOnce, addedTwice,
    armSix_twice once twice, once.frame.payloadBytes, once.ready, once.stopped⟩

end Sys2Proof.Proofs.OnTheWire
end
